-- ==== Sys2Proof/Word.lean ====
section
/-! DEFINITION. The octet and the plain helpers over bits and whole numbers that every block uses
(00_scope.md, Conventions). Nothing here belongs to one block. -/

namespace Sys2Proof

/-- Eight bits. The first bit sent, b1, is the most significant (00 Conventions, bit order). -/
abbrev Octet := BitVec 8

/-- "Clamp to ±n" of 00 Conventions. -/
def clampTo (n x : Int) : Int := if n < x then n else if x < -n then -n else x

/-- A counter that saturates: it rises by 1 and stays at `top`. -/
def satSucc (top n : Nat) : Nat := if n + 1 ≤ top then n + 1 else top

/-- The octets of a 16-bit field, most significant first (R170). -/
def octets16 (x : BitVec 16) : List Octet :=
  [x.extractLsb' 8 8, x.extractLsb' 0 8]

/-- The octets of a 24-bit field, most significant first (R170). -/
def octets24 (x : BitVec 24) : List Octet :=
  [x.extractLsb' 16 8, x.extractLsb' 8 8, x.extractLsb' 0 8]

/-- The octets of a 32-bit field, most significant first (R170). -/
def octets32 (x : BitVec 32) : List Octet :=
  [x.extractLsb' 24 8, x.extractLsb' 16 8, x.extractLsb' 8 8, x.extractLsb' 0 8]

end Sys2Proof
end

