-- ==== Sys2Proof/Syntax.lean ====
section
/-! DEFINITION. The commands of the EL416: one constructor of `Instr` for each row of
spec/opcode_table.json. The table gives the rows no operands; the operands are this model's choice
(notes/assumptions/1.md) and carry what the event brings in from outside the state. -/

namespace Sys2Proof

/-- A tributary, T0 to T15. -/
abbrev TribId := Fin 16

/-- One of the two reference inputs. -/
inductive RefId where
  | refA
  | refB
  deriving DecidableEq, Repr

/-- One of the three shelf rail lines (R135). -/
inductive RailLine where
  | beat
  | grade
  | lead
  deriving DecidableEq, Repr

/-- The two changes of a rail line that a window captures (R141). -/
inductive LineChange where
  | fall
  | rise
  deriving DecidableEq, Repr

/-- The values of the TCT strap: how many tributaries are enabled (R1, R20). -/
inductive TribCount where
  | four
  | eight
  | twelve
  | sixteen
  deriving DecidableEq, Repr

/-- The values of the DEP strap: the depth limit (R20). -/
inductive DepthLimit where
  | two
  | four
  | six
  | eight
  deriving DecidableEq, Repr

/-- The twenty strap pins, as the six straps (00 Signals). TCT, DEP, STN and the priority classes
are held by the value they stand for; RCA and RCB by their two bits, whose codes R102 gives. -/
structure Straps where
  stn : Fin 16
  tct : TribCount
  dep : DepthLimit
  rca : BitVec 2
  rcb : BitVec 2
  pg0 : Fin 4
  pg1 : Fin 4
  pg2 : Fin 4
  pg3 : Fin 4
  deriving DecidableEq, Repr

/-- One constructor per row of spec/opcode_table.json. -/
inductive Instr where
  /-- RESET_ASSERTION (R155): RSTn goes low. -/
  | resetAssertion
  /-- RESET_RELEASE (R156): RSTn goes high, with the strap pins and the level of EJ sampled then. -/
  | resetRelease (straps : Straps) (ej : Bool)
  /-- LEAVE_DARK (R7): the edge of LCKt that leaves DARK, with its bit of LDAt. -/
  | leaveDark (t : TribId) (bit : Bool)
  /-- DARK_ENTRY (R5): the dark timer of tributary t expires. -/
  | darkEntry (t : TribId)
  /-- CANDIDATE (R9): the edge of LCKt that completes a matching window. -/
  | candidate (t : TribId) (bit : Bool)
  /-- VERIFY_CHECK (R10): the edge of LCKt at which the verify countdown reaches 0. -/
  | verifyCheck (t : TribId) (bit : Bool)
  /-- SYNC_OCTET_CHECK (R13): the edge of LCKt at bit position 7 in ALIGNED. -/
  | syncOctetCheck (t : TribId) (bit : Bool)
  /-- FRAME_COMPLETION (R34): the edge of LCKt at bit position 255 in ALIGNED. -/
  | frameCompletion (t : TribId) (bit : Bool)
  /-- OFFICE_BOUNDARY (R80): a new office frame begins; `ej` is the level of EJ at that tick. -/
  | officeBoundary (ej : Bool)
  /-- MEASUREMENT_CLOSE (R84): tick 2047 of the office frame. -/
  | measurementClose
  /-- ACCEPTED_EDGE (R104): a pulse of the reference is accepted; `rise` is the crystal tick of its
  first high sample. -/
  | acceptedEdge (r : RefId) (rise : Nat)
  /-- MISSING_EDGE (R107): the activity timer of the reference expires. -/
  | missingEdge (r : RefId)
  /-- GRADE_START (R139): the grade start of the window is reached. -/
  | gradeStart
  /-- PULSE_END (R137): the station's pulse on the line has reached its length. -/
  | pulseEnd (line : RailLine)
  /-- EJ_RISING_EDGE (R163). -/
  | ejRisingEdge
  /-- ACKNOWLEDGEMENT (R173): MAK has been high for eight ticks. -/
  | acknowledgement
  /-- LINE_CLOCK_EDGE (R3): any other edge of LCKt, with its bit of LDAt. -/
  | lineClockEdge (t : TribId) (bit : Bool)
  /-- RAIL_LINE_CAPTURE (R141): the line is read to fall or to rise at tick `tick` of the office
  frame. -/
  | railLineCapture (line : RailLine) (change : LineChange) (tick : Nat)
  /-- OFFICE_BIT (R58): office bit `k` begins (`half` false) or is eight ticks old (`half` true). -/
  | officeBit (k : Nat) (half : Bool)
  deriving DecidableEq, Repr

end Sys2Proof
end

