-- ==== Sys2Proof/WellFormed.lean ====
section
/-! DEFINITION. Which commands are well formed. Most operands are bounded by their types; the two
that are plain numbers are checked here. A command that is not well formed still has its meaning:
its tick lies outside every window (R135) or every office bit (R58). -/

namespace Sys2Proof

/-- The greatest tick a frame can reach: its length is at most 8191 (00 Terms, frame length), and a
change read at the tick of the boundary itself may be taken before it (R151). -/
def maxOfficeTick : Nat := 8191

/-- `tick` is a tick that some office frame has. -/
def officeTickOk (tick : Nat) : Bool := decide (tick ≤ maxOfficeTick)

/-- Office bits are 0 to 255 (R58); slot 256, first half, is tick 4096, where the gap of a join
frame begins (R59). -/
def officeBitOk (k : Nat) (half : Bool) : Bool :=
  decide (k < 256) || (decide (k = 256) && !half)

/-- The command's operands are ones the device can meet. -/
def Instr.wf : Instr → Bool
  | .resetAssertion => true
  | .resetRelease _ _ => true
  | .leaveDark _ _ => true
  | .darkEntry _ => true
  | .candidate _ _ => true
  | .verifyCheck _ _ => true
  | .syncOctetCheck _ _ => true
  | .frameCompletion _ _ => true
  | .officeBoundary _ => true
  | .measurementClose => true
  | .acceptedEdge _ _ => true
  | .missingEdge _ => true
  | .gradeStart => true
  | .pulseEnd _ => true
  | .ejRisingEdge => true
  | .acknowledgement => true
  | .lineClockEdge _ _ => true
  | .railLineCapture _ _ tick => officeTickOk tick
  | .officeBit k half => officeBitOk k half

end Sys2Proof
end

