-- ==== Sys2Proof/Config.lean ====
section
/-! DEFINITION. The constants the spec fixes, and the free choices it leaves open. A free choice is an
opaque constant applied to `State.choiceSeq`: nothing in Lean can tell its value, so whatever is
proved holds for either order (notes/assumptions/3.md, 14.md to 17.md and 38.md). -/

namespace Sys2Proof.Config

/-- Cells of the pool (02, opening; R21). -/
def poolCells : Nat := 96

/-- Floor of an enabled tributary (R20). -/
def floorCells : Nat := 3

/-- Ticks the dark timer is loaded with (R4). -/
def darkTicks : Nat := 256

/-- Ticks the activity timer is loaded with (R107). -/
def activityTicks : Nat := 4608

/-- Qualification period with the flap mark clear (R109). -/
def qualifyClear : Nat := 80000

/-- Qualification period with the flap mark set (R109). -/
def qualifyFlap : Nat := 2400000

/-- Office frames of the flap window and of the qualified run that sheds the mark (R111, R112). -/
def flapFrames : Nat := 4800000

/-- Office frames in a second (R94). -/
def framesPerSecond : Nat := 8000

/-- Greatest hold age in seconds (R95). -/
def maxHoldAge : Nat := 86400

/-- Tick of the measurement close (R80). -/
def closeTick : Nat := 2047

/-- Range of the phase error (R82). -/
def maxError : Int := 512

/-- Range of the integral word (R84). -/
def maxIntegral : Int := 32767

/-- Range of the frequency word (R84). -/
def maxFrequency : Int := 65535

/-- Range of the holdover history (R90). -/
def maxHistory : Int := 8388352

/-! Free choices between two orders that are both legal. -/

/-- R171: whether RESTART is raised before the page start of the release. -/
opaque restartBeforePage : Nat → Bool

/-- R98: whether a withdrawal is taken before the FTU's own boundary work. -/
opaque withdrawBeforeFtu : Nat → Bool

/-- R169, R175: whether readout's boundary work is taken before the maintenance block's. -/
opaque readoutBeforePage : Nat → Bool

/-- R169: whether the boundary work of selector, mode machine, rail and LISTEN procedure is taken
before the maintenance block's. -/
opaque stationBeforePage : Nat → Bool

/-- R169: whether the monitors' boundary work is taken before the maintenance block's. -/
opaque monitorsBeforePage : Nat → Bool

/-- R97: whether the change from HOLD to TRACK decided at a close is taken before the close's other
work. -/
opaque holdTestBeforeClose : Nat → Bool

/-- R6: whether an edge is taken before the expiry of the dark timer at the same tick. -/
opaque edgeBeforeExpiry : Nat → Nat → Bool

/-- R119: whether an acceptance is taken before the expiry of the activity timer at the same tick. -/
opaque acceptBeforeMissing : Nat → Bool → Bool

/-- R3, R156: whether the edges of a line clock that the tick of the release lists come before the release. -/
opaque edgesBeforeRelease : Nat → Nat → Bool

/-- R151: whether a peer's BEAT fall at the tick of a boundary is read before the boundary. -/
opaque railBeforeBoundary : Nat → Bool

/-- R151: whether other events of the tick may part such a fall, with its grade start, from the boundary. -/
opaque fallApart : Nat → Bool

/-- R165: whether the boundary at whose tick EJ falls still reads EJ high. -/
opaque boundaryBeforeEjFall : Nat → Bool

/-- The place of the n-th group of events that fall at one tick among those after it. -/
opaque slotPlace : Nat → Nat → Nat

end Sys2Proof.Config
end

