-- ==== Sys2Proof/Machine/State.lean ====
section
/-! DEFINITION. The state of the EL416, block by block as 00_scope.md lists them, the reasons a step
could stop with, and the state at reset. Plain data throughout. -/

namespace Sys2Proof.Machine

/-! Time -/

/-- A stamp: the seconds counter and frame-in-second (R68). -/
structure Stamp where
  seconds : BitVec 32
  frame : Nat
  deriving DecidableEq, Repr

/-! Tributary receivers (chapter 01) -/

/-- The alignment state (01 section 1.2). -/
inductive AlignState where
  | dark
  | search
  | verify
  | aligned
  deriving DecidableEq, Repr

/-- Which check VERIFY waits for (01 section 1.2). -/
inductive VerifyStep where
  | first
  | second
  deriving DecidableEq, Repr

/-- The receiver's record (01 section 1.2). `darkTimer` none means stopped; `window` holds the oldest
bit first; `octet` is the octet being assembled (R10, R12). -/
structure Receiver where
  align : AlignState
  darkTimer : Option Nat
  window : List Bool
  candIndex : BitVec 3
  verifyStep : VerifyStep
  countdown : Nat
  expected : BitVec 3
  badRun : Nat
  bitPos : BitVec 8
  mLatch : Bool
  lastSync : Octet
  octet : Octet
  deriving DecidableEq, Repr

/-- The receiver at the assertion of RSTn (R2). -/
def Receiver.reset : Receiver where
  align := .dark
  darkTimer := none
  window := []
  candIndex := 0
  verifyStep := .first
  countdown := 0
  expected := 0
  badRun := 0
  bitPos := 0
  mLatch := false
  lastSync := 0
  octet := 0

/-! Cell pool and store queues (chapter 02) -/

/-- The 31 payload octets of a cell: bit 0 of the frame's payload, the first received, is the most
significant bit (R12, R21). -/
abbrev Payload := BitVec 248

/-- A completed cell: its payload and the M bit of its frame (R15). -/
structure Cell where
  payload : Payload
  m : Bool
  deriving DecidableEq, Repr

/-- What a tributary holds of the pool (R21): the filling cell (the part written so far), the
transmitting cell and the queue, oldest first. -/
structure Store where
  filling : Option Payload
  transmitting : Option Cell
  queue : List Cell
  deriving DecidableEq, Repr

/-- The store at the assertion of RSTn (R24). -/
def Store.reset : Store where
  filling := none
  transmitting := none
  queue := []

/-! Readout (chapter 03) -/

/-- The store state that readout keeps (R44). -/
inductive StoreState where
  | idle
  | prime
  | normal
  | refill
  deriving DecidableEq, Repr

/-! Records (chapter 04) -/

/-- The four kinds of slip (04 section 4.4). -/
inductive SlipKind where
  | repeated
  | delete
  | own
  | evicted
  deriving DecidableEq, Repr

/-- A first-slip or last-slip field: kind and stamp (R66). -/
structure SlipMark where
  kind : SlipKind
  stamp : Stamp
  deriving DecidableEq, Repr

/-- The last-slip detail (R66, R71). -/
structure SlipDetail where
  kind : SlipKind
  frames : Nat
  queueBefore : Nat
  sharedBefore : Nat
  deriving DecidableEq, Repr

/-- The record of one tributary (R66). -/
structure Record where
  repeatEvents : BitVec 16
  repeatedFrames : BitVec 16
  deleteEvents : BitVec 16
  deletedFrames : BitVec 16
  squeezes : BitVec 16
  evictionsCaused : BitVec 16
  alignLosses : BitVec 16
  darkEntries : BitVec 16
  firstSlip : Option SlipMark
  lastSlip : Option SlipMark
  detail : Option SlipDetail
  openRepeat : Bool
  currentRun : Nat
  runLow : Nat
  runHigh : Nat
  low : Nat
  high : Nat
  deriving DecidableEq, Repr

/-- A record at the assertion of RSTn (R66). -/
def Record.reset : Record where
  repeatEvents := 0
  repeatedFrames := 0
  deleteEvents := 0
  deletedFrames := 0
  squeezes := 0
  evictionsCaused := 0
  alignLosses := 0
  darkEntries := 0
  firstSlip := none
  lastSlip := none
  detail := none
  openRepeat := false
  currentRun := 0
  runLow := 0
  runHigh := 0
  low := 0
  high := 0

/-- The station counters of the records block (R79). -/
structure StationCounters where
  refSwitches : BitVec 16
  holdEntries : BitVec 16
  relabels : BitVec 16
  leadLost : BitVec 16
  deriving DecidableEq, Repr

/-- One tributary through the blocks of the data path: receiver, store, readout (store state,
repeat-run length, the frame its output sends) and record. -/
structure Trib where
  rx : Receiver
  store : Store
  storeState : StoreState
  repeatRun : Nat
  outFrame : BitVec 256
  record : Record
  deriving DecidableEq, Repr

/-- A fill frame of office index 0 (R57), most significant bit sent first. -/
def fillFrameZero : BitVec 256 :=
  0b10110001#8 ++ BitVec.allOnes 248

/-- A tributary at the assertion of RSTn (R2, R24, R45, R66). -/
def Trib.reset : Trib where
  rx := Receiver.reset
  store := Store.reset
  storeState := .idle
  repeatRun := 0
  outFrame := fillFrameZero
  record := Record.reset

/-! Frame timing unit (chapter 05) -/

/-- The gain sets (R83). -/
inductive GainSet where
  | acquire
  | track
  deriving DecidableEq, Repr

/-- An index request to the FTU (R93). -/
inductive IndexRequest where
  | relabel (k : BitVec 3)
  | setTo (v : BitVec 3)
  deriving DecidableEq, Repr

/-- The frame timing unit (05; R81). `crystal` counts ticks and is reset at no boundary (06 section
6.1); `frameStart` is the crystal tick of the boundary of the frame in progress. -/
structure Ftu where
  crystal : Nat
  frameStart : Nat
  tick : Nat
  length : Nat
  fraction : Int
  integral : Int
  frequency : Int
  history : Int
  gain : GainSet
  settleRun : Nat
  excursionRun : Nat
  rangeRun : Nat
  lastError : Option Int
  officeIndex : BitVec 3
  frameInSecond : Nat
  seconds : BitVec 32
  holdAge : Nat
  indexRequest : Option IndexRequest
  joinRequest : Option Nat
  deriving DecidableEq, Repr

/-- The FTU at the assertion of RSTn (R81). -/
def Ftu.reset : Ftu where
  crystal := 0
  frameStart := 0
  tick := 0
  length := 4096
  fraction := 0
  integral := 0
  frequency := 0
  history := 0
  gain := .acquire
  settleRun := 0
  excursionRun := 0
  rangeRun := 0
  lastError := none
  officeIndex := 0
  frameInSecond := 0
  seconds := 0
  holdAge := 0
  indexRequest := none
  joinRequest := none

/-! Reference monitors and selector (chapter 06) -/

/-- Reference classes (R102). -/
inductive RefClass where
  | classA
  | classB
  deriving DecidableEq, Repr

/-- Monitor states (R103). -/
inductive MonitorState where
  | absent
  | down
  | qualifying
  | qualified
  deriving DecidableEq, Repr

/-- A reference monitor (R103). `activity` none means stopped. -/
structure Monitor where
  state : MonitorState
  armed : Bool
  highTicks : Nat
  lastEdge : Option Nat
  activity : Option Nat
  qualCount : Nat
  impairRun : Nat
  qualRun : Nat
  flap : Bool
  lastLoss : Option Stamp
  deriving DecidableEq, Repr

/-- A monitor at the assertion of RSTn (R103). -/
def Monitor.reset : Monitor where
  state := .down
  armed := true
  highTicks := 0
  lastEdge := none
  activity := none
  qualCount := 0
  impairRun := 0
  qualRun := 0
  flap := false
  lastLoss := none

/-- The selector (R113). -/
structure Selector where
  selected : Option RefId
  buildOut : Int
  buildPending : Bool
  offered : Option Int
  deriving DecidableEq, Repr

/-- The selector at the assertion of RSTn (R113). -/
def Selector.reset : Selector where
  selected := none
  buildOut := 0
  buildPending := false
  offered := none

/-! Station mode machine (chapter 07) -/

/-- The four modes (R121). -/
inductive Mode where
  | listen
  | track
  | anchor
  | hold
  deriving DecidableEq, Repr

/-- The mode machine (R121). -/
structure ModeMachine where
  mode : Mode
  grade : Option Nat
  offsetRun : Nat
  deriving DecidableEq, Repr

/-- The mode machine at the assertion of RSTn (R121). -/
def ModeMachine.reset : ModeMachine where
  mode := .listen
  grade := none
  offsetRun := 0

/-! Rail interface (chapter 08) -/

/-- The width of the rail windows (R136, R140). -/
inductive WindowWidth where
  | narrow
  | wide
  | listen
  deriving DecidableEq, Repr

/-- What the rail interface holds of one line in the open window (R141): the first fall and the last
rise as positions, the level last read there (`low`), and whether it was ever read low (R158). -/
structure LineCapture where
  firstFall : Option Int
  lastRise : Option Int
  low : Option Bool
  sawLow : Bool
  deriving DecidableEq, Repr

/-- A line of which nothing has been read in the window. -/
def LineCapture.blank : LineCapture where
  firstFall := none
  lastRise := none
  low := none
  sawLow := false

/-- The captures of the open windows with the grade start and the pulse grade (R136). `markBroken`
says that BEAT was read high within 80 ticks of the grade start (R146). -/
structure Captures where
  beat : LineCapture
  grade : LineCapture
  lead : LineCapture
  gradeStart : Option Int
  pulseGrade : Option Nat
  markBroken : Bool
  deriving DecidableEq, Repr

/-- Cleared captures. -/
def Captures.blank : Captures where
  beat := LineCapture.blank
  grade := LineCapture.blank
  lead := LineCapture.blank
  gradeStart := none
  pulseGrade := none
  markBroken := false

/-- The captures of a closed LISTEN window, with its frame's length and office index (R158). -/
structure HeldWindow where
  caps : Captures
  length : Nat
  index : BitVec 3
  deriving DecidableEq, Repr

/-- Per line, the crystal tick at which the station's pulse ends (R136). -/
structure Pulses where
  beat : Option Nat
  grade : Option Nat
  lead : Option Nat
  deriving DecidableEq, Repr

/-- No pulse in progress. -/
def Pulses.blank : Pulses where
  beat := none
  grade := none
  lead := none

/-- The rail interface (R136). `listenWindow` says that the frame in progress has a LISTEN window, and
`held` is the LISTEN window of the frame before it (R158). -/
structure Rail where
  drivenGrade : Option Nat
  drivingLead : Bool
  pulses : Pulses
  width : WindowWidth
  caps : Captures
  listenWindow : Bool
  held : Option HeldWindow
  bestGrade : Nat
  railError : Option Int
  leadSpread : Int
  leadAbsentRun : Nat
  markSet : List Nat
  markCand : Option Nat
  markRun : Nat
  backoff : Nat
  relabelStamps : List Stamp
  deriving DecidableEq, Repr

/-- The rail interface at the assertion of RSTn (R136). -/
def Rail.reset : Rail where
  drivenGrade := none
  drivingLead := false
  pulses := Pulses.blank
  width := .listen
  caps := Captures.blank
  listenWindow := false
  held := none
  bestGrade := 0
  railError := none
  leadSpread := 0
  leadAbsentRun := 0
  markSet := []
  markCand := none
  markRun := 0
  backoff := 0
  relabelStamps := []

/-! LISTEN procedure (chapter 09) -/

/-- The phases of the LISTEN procedure (R157). -/
inductive ListenPhase where
  | running
  | joinPending
  | joinFrame
  deriving DecidableEq, Repr

/-- The LISTEN procedure (R157). `ejSampled` says that EJ has been sampled since the release, so that
a rise can be told (R163). -/
structure Listen where
  withdrawn : Bool
  withdrawRequest : Bool
  phase : ListenPhase
  frameCount : Nat
  runMidpoint : Option Nat
  runCount : Nat
  silentRun : Nat
  latestMidpoint : Option Nat
  markIndex : Option (BitVec 3)
  markCount : Nat
  offset : Option Nat
  ejSampled : Bool
  deriving DecidableEq, Repr

/-- The LISTEN procedure at the assertion of RSTn (R157). -/
def Listen.reset : Listen where
  withdrawn := false
  withdrawRequest := false
  phase := .running
  frameCount := 0
  runMidpoint := none
  runCount := 0
  silentRun := 0
  latestMidpoint := none
  markIndex := none
  markCount := 0
  offset := none
  ejSampled := false

/-! Maintenance stream and alarm (chapter 10) -/

/-- The twelve alarm flags (R170). -/
inductive FlagId where
  | restart
  | dark
  | alignLoss
  | slip
  | squeeze
  | refLoss
  | holdEntry
  | leadLost
  | offset
  | flap
  | range
  | relabel
  deriving DecidableEq, Repr

/-- The three marks of a flag: value, snapshot, raised-since (10 section 10.4). -/
structure Flag where
  v : Bool
  s : Bool
  x : Bool
  deriving DecidableEq, Repr

/-- A flag at the assertion of RSTn (R171). -/
def Flag.reset : Flag where
  v := false
  s := false
  x := false

/-- The twelve flags, each under its own name. -/
structure Flags where
  restart : Flag
  dark : Flag
  alignLoss : Flag
  slip : Flag
  squeeze : Flag
  refLoss : Flag
  holdEntry : Flag
  leadLost : Flag
  offset : Flag
  flap : Flag
  range : Flag
  relabel : Flag
  deriving DecidableEq, Repr

/-- The flags at the assertion of RSTn (R171). -/
def Flags.reset : Flags where
  restart := Flag.reset
  dark := Flag.reset
  alignLoss := Flag.reset
  slip := Flag.reset
  squeeze := Flag.reset
  refLoss := Flag.reset
  holdEntry := Flag.reset
  leadLost := Flag.reset
  offset := Flag.reset
  flap := Flag.reset
  range := Flag.reset
  relabel := Flag.reset

/-- The maintenance stream (R168, R169) and the MAK filter (R173). `carry` holds the octets of a
field that has been read and is not yet sent whole; `octetHi` and `octetLo` are the two octets of the
frame in progress. -/
structure Maint where
  pageCounter : BitVec 7
  pageSeq : BitVec 8
  header : List Octet
  carry : List Octet
  octetHi : Octet
  octetLo : Octet
  makArmed : Bool
  makHigh : Nat
  deriving DecidableEq, Repr

/-- The maintenance block at the assertion of RSTn (R168). -/
def Maint.reset : Maint where
  pageCounter := 0
  pageSeq := 0
  header := []
  carry := []
  octetHi := 0
  octetLo := 0
  makArmed := false
  makHigh := 0

/-! Pins -/

/-- A rail line as the backplane without this station drives it (R135, R152): released by every
peer, pulled low by a peer or a fault, or held high by a fault. -/
inductive Backplane where
  | released
  | pulledLow
  | heldHigh
  deriving DecidableEq, Repr

/-- The levels of the input pins that the crystal samples (00 Signals). -/
structure InPins where
  rstn : Bool
  ej : Bool
  mak : Bool
  refA : Bool
  refB : Bool
  beat : Backplane
  grade : Backplane
  lead : Backplane
  straps : Straps
  deriving DecidableEq, Repr

/-- The straps before the first release: no value is given (notes/assumptions/7.md). -/
def Straps.unsampled : Straps where
  stn := 0
  tct := .four
  dep := .two
  rca := 0
  rcb := 0
  pg0 := 0
  pg1 := 0
  pg2 := 0
  pg3 := 0

/-- The input pins with RSTn asserted and every other line quiet (notes/assumptions/7.md). -/
def InPins.reset : InPins where
  rstn := false
  ej := false
  mak := false
  refA := false
  refB := false
  beat := .released
  grade := .released
  lead := .released
  straps := Straps.unsampled

/-- The output pins that follow the office bit timing (R58, R60, R167). ALM and the drive of the rail
lines are computed: `State.alm`, `State.ownLow`. -/
structure OutPins where
  oda : Vector Bool 16
  ock : Bool
  ofp : Bool
  msc : Bool
  mso : Bool
  msf : Bool
  deriving DecidableEq, Repr

/-- The output pins while RSTn is asserted (R61, R167). -/
def OutPins.reset : OutPins where
  oda := Vector.replicate 16 true
  ock := false
  ofp := false
  msc := false
  mso := false
  msf := false

/-- What a crystal tick brings in: the levels of the input pins, and the rising edges of line clocks
that fall before the next tick, each with its data bit (notes/assumptions/4.md). -/
structure TickInput where
  pins : InPins
  edges : List (TribId × Bool)
  deriving DecidableEq, Repr

/-! The whole machine -/

/-- The state of one EL416. `pending`, `inputs`, `railDue` and `choiceSeq` are the model's own. -/
structure State where
  pins : InPins
  straps : Straps
  tribs : Vector Trib 16
  free : Nat
  counters : StationCounters
  ftu : Ftu
  monA : Monitor
  monB : Monitor
  selector : Selector
  modes : ModeMachine
  rail : Rail
  listen : Listen
  flags : Flags
  maint : Maint
  out : OutPins
  pending : List Instr
  inputs : List TickInput
  railDue : Bool
  choiceSeq : Nat
  deriving DecidableEq, Repr

/-- Why a step could stop with a fault. The spec names no event that stops the device and gives every
event an effect, so there is no reason (INVENTORY.md, Faults). -/
inductive Fault where
  deriving DecidableEq, Repr

/-- Why a step could refuse. -/
inductive Refusal where
  /-- A command that has no meaning yet, by its mnemonic: raised by `exec` only. Safe: a run stops
  where the device would go on. No arm raises it now. -/
  | notModelled (mnemonic : String)
  deriving DecidableEq, Repr

/-- The state right after the assertion of RSTn: every field as the spec gives it there (R2, R24, R45,
R61, R66, R79, R81, R103, R113, R121, R136, R157, R167, R168, R171), and the values of
notes/assumptions/7.md, 8.md and 9.md where it gives none. -/
def State.reset : State where
  pins := InPins.reset
  straps := Straps.unsampled
  tribs := Vector.replicate 16 Trib.reset
  free := Config.poolCells
  counters := { refSwitches := 0, holdEntries := 0, relabels := 0, leadLost := 0 }
  ftu := Ftu.reset
  monA := Monitor.reset
  monB := Monitor.reset
  selector := Selector.reset
  modes := ModeMachine.reset
  rail := Rail.reset
  listen := Listen.reset
  flags := Flags.reset
  maint := Maint.reset
  out := OutPins.reset
  pending := []
  inputs := []
  railDue := false
  choiceSeq := 0

end Sys2Proof.Machine
end

