-- ==== Sys2Proof/Machine/Flags.lean ====
section
/-! DEFINITION. The twelve alarm flags: raising, the page-start snapshot, the acknowledgement and ALM
(R171 to R174). -/

namespace Sys2Proof.Machine

/-- Raising sets V and X and leaves S (R171). -/
def Flag.raise (f : Flag) : Flag := { f with v := true, x := true }

/-- A page start: S becomes V and X becomes 0 (R172). -/
def Flag.snapshot (f : Flag) : Flag := { f with s := f.v, x := false }

/-- An acknowledgement: V becomes 0 where S is 1 and X is 0 (R173). -/
def Flag.acknowledge (f : Flag) : Flag := { f with v := f.v && !(f.s && !f.x) }

/-- The flag of a name. -/
def Flags.get (fs : Flags) : FlagId → Flag
  | .restart => fs.restart
  | .dark => fs.dark
  | .alignLoss => fs.alignLoss
  | .slip => fs.slip
  | .squeeze => fs.squeeze
  | .refLoss => fs.refLoss
  | .holdEntry => fs.holdEntry
  | .leadLost => fs.leadLost
  | .offset => fs.offset
  | .flap => fs.flap
  | .range => fs.range
  | .relabel => fs.relabel

/-- Raise one flag. -/
def Flags.raise (fs : Flags) : FlagId → Flags
  | .restart => { fs with restart := fs.restart.raise }
  | .dark => { fs with dark := fs.dark.raise }
  | .alignLoss => { fs with alignLoss := fs.alignLoss.raise }
  | .slip => { fs with slip := fs.slip.raise }
  | .squeeze => { fs with squeeze := fs.squeeze.raise }
  | .refLoss => { fs with refLoss := fs.refLoss.raise }
  | .holdEntry => { fs with holdEntry := fs.holdEntry.raise }
  | .leadLost => { fs with leadLost := fs.leadLost.raise }
  | .offset => { fs with offset := fs.offset.raise }
  | .flap => { fs with flap := fs.flap.raise }
  | .range => { fs with range := fs.range.raise }
  | .relabel => { fs with relabel := fs.relabel.raise }

/-- The same change at every flag. -/
def Flags.each (g : Flag → Flag) (fs : Flags) : Flags where
  restart := g fs.restart
  dark := g fs.dark
  alignLoss := g fs.alignLoss
  slip := g fs.slip
  squeeze := g fs.squeeze
  refLoss := g fs.refLoss
  holdEntry := g fs.holdEntry
  leadLost := g fs.leadLost
  offset := g fs.offset
  flap := g fs.flap
  range := g fs.range
  relabel := g fs.relabel

/-- Some flag's V is 1 (R174). -/
def Flags.anySet (fs : Flags) : Bool :=
  fs.restart.v || fs.dark.v || fs.alignLoss.v || fs.slip.v || fs.squeeze.v || fs.refLoss.v ||
    fs.holdEntry.v || fs.leadLost.v || fs.offset.v || fs.flap.v || fs.range.v || fs.relabel.v

/-- The twelve S marks as the header's alarm flags field, RESTART in bit 0 (R170). -/
def Flags.snapshotBits (fs : Flags) : BitVec 16 :=
  0#4 ++ BitVec.ofBool fs.relabel.s ++ BitVec.ofBool fs.range.s ++ BitVec.ofBool fs.flap.s ++
    BitVec.ofBool fs.offset.s ++ BitVec.ofBool fs.leadLost.s ++ BitVec.ofBool fs.holdEntry.s ++
    BitVec.ofBool fs.refLoss.s ++ BitVec.ofBool fs.squeeze.s ++ BitVec.ofBool fs.slip.s ++
    BitVec.ofBool fs.alignLoss.s ++ BitVec.ofBool fs.dark.s ++ BitVec.ofBool fs.restart.s

/-- Raise a flag of the station (R171). -/
def State.raise (s : State) (f : FlagId) : State := { s with flags := s.flags.raise f }

/-- The level of ALM: low exactly when some V is 1 (R174). -/
def State.alm (s : State) : Bool := !s.flags.anySet

end Sys2Proof.Machine
end

