-- ==== Sys2Proof/Machine/Operands.lean ====
section
/-! DEFINITION. The operand forms of the EL416's events: the sync octet and the output frame, the
position of a tick, the reading of a line's captures, the distance of two stamps, the values of the
straps. Pure functions, each the wording of one rule. -/

namespace Sys2Proof.Machine

/-! The sync octet (R8) -/

/-- The octet with one more bit received: earlier bits move up, the newest is b8. -/
def pushBit (o : Octet) (bit : Bool) : Octet :=
  (o <<< 1) ||| (BitVec.ofBool bit).setWidth 8

/-- The octet of the bits of a window, b1 first (R9). -/
def octetOf (bits : List Bool) : Octet := bits.foldl pushBit 0

/-- b1 to b4 are 1, 0, 1, 1 (R8, pattern match). -/
def patternMatch (o : Octet) : Bool := o.extractLsb' 4 4 == 0b1011#4

/-- b5 to b7 as a number (R8). -/
def octetIndex (o : Octet) : BitVec 3 := o.extractLsb' 1 3

/-- b8, the M bit (R8). -/
def octetM (o : Octet) : Bool := o.getLsbD 0

/-- The octet is good for the given index (R8). -/
def goodOctet (o : Octet) (index : BitVec 3) : Bool :=
  patternMatch o && (octetIndex o == index)

/-- The search window with one more bit: the last eight bits received (R9). -/
def pushWindow (window : List Bool) (bit : Bool) : List Bool :=
  let w := window ++ [bit]
  w.drop (w.length - 8)

/-- The window holds eight bits that match the pattern (R9). -/
def windowMatches (window : List Bool) : Bool :=
  decide (window.length = 8) && patternMatch (octetOf window)

/-- The payload with the bit at position `pos` (8 to 255) of the tributary frame written in its place
(R12). -/
def writePayload (p : Payload) (pos : Nat) (bit : Bool) : Payload :=
  let mask : Payload := 1#248 <<< (255 - pos)
  if bit then p ||| mask else p &&& ~~~mask

/-! Output frames (R56, R57) -/

/-- The sync octet an output sends: pattern, office index, M bit (R56, R57). -/
def syncOctet (index : BitVec 3) (m : Bool) : Octet :=
  0b1011#4 ++ index ++ BitVec.ofBool m

/-- The frame sent from a transmitting cell, first bit most significant (R56). -/
def cellFrame (index : BitVec 3) (c : Cell) : BitVec 256 := syncOctet index c.m ++ c.payload

/-- A fill frame (R57). -/
def fillFrame (index : BitVec 3) : BitVec 256 := syncOctet index true ++ BitVec.allOnes 248

/-- Office bit k of a frame (00 Conventions, bit order). -/
def frameBit (f : BitVec 256) (k : Nat) : Bool := f.getLsbD (255 - k)

end Sys2Proof.Machine

namespace Sys2Proof

/-! Straps (R1, R20, R102) -/

/-- The number of enabled tributaries (R1). -/
def TribCount.value : TribCount → Nat
  | .four => 4
  | .eight => 8
  | .twelve => 12
  | .sixteen => 16

/-- The depth limit (R20). -/
def DepthLimit.value : DepthLimit → Nat
  | .two => 2
  | .four => 4
  | .six => 6
  | .eight => 8

/-- The centre C = DEP/2 (R20). -/
def DepthLimit.centre : DepthLimit → Nat
  | .two => 1
  | .four => 2
  | .six => 3
  | .eight => 4

/-- Frames a delete slip discards, DEP − C + 1 (R35). -/
def DepthLimit.deleted (d : DepthLimit) : Nat := d.value - d.centre + 1

/-- The priority class of a tributary, by its group of four (R20). -/
def Straps.classOf (p : Straps) (t : TribId) : Fin 4 :=
  if t.val < 4 then p.pg0 else if t.val < 8 then p.pg1 else if t.val < 12 then p.pg2 else p.pg3

/-- The two strap bits of a reference (R102). -/
def Straps.refCode (p : Straps) : RefId → BitVec 2
  | .refA => p.rca
  | .refB => p.rcb

/-- The class of a reference: 00 unused, 01 B, 10 and 11 A (R102). -/
def Straps.refClass (p : Straps) (r : RefId) : Option Machine.RefClass :=
  if p.refCode r = 0b00#2 then none
  else if p.refCode r = 0b01#2 then some .classB
  else some .classA

/-- The other reference. -/
def RefId.other : RefId → RefId
  | .refA => .refB
  | .refB => .refA

/-- Reference `a` is of better class than `b`: class A is preferred (R114). -/
def Straps.betterRef (p : Straps) (a b : RefId) : Bool :=
  p.refClass a == some .classA && p.refClass b == some .classB

end Sys2Proof

namespace Sys2Proof.Machine

/-- All sixteen tributaries, lowest first. -/
def allTribs : List TribId := [0, 1, 2, 3, 4, 5, 6, 7, 8, 9, 10, 11, 12, 13, 14, 15]

/-! Positions (R105, R135) -/

/-- The position of tick `t` of a frame of `length` ticks, without the floor of R105 (R105, R135). -/
def tickPosition (length t : Nat) : Int :=
  if t ≤ 2047 then (t : Int) else (t : Int) - (length : Int)

/-- The position of a reference edge that rose `off` ticks after the boundary of the frame in progress,
negative if it rose in the frame before (R105). -/
def edgePosition (length : Nat) (off : Int) : Int :=
  let p := if off ≤ 2047 then off else off - (length : Int)
  if p < -2048 then -2048 else p

/-- A difference of positions taken the short way round the frame (R118). -/
def shortWay (d : Int) : Int := if 2047 < d then d - 4096 else if d < -2048 then d + 4096 else d

/-! Readings of captures (R141 to R143, R146) -/

/-- First fall and last rise of a line at the end of its window, whose last tick is `last`: a line
still low there rises at the tick after it (R141). A first fall that is followed by no reading of the
line as low shows no pulse (R152, LEAD held high; notes/assumptions/21.md). -/
def LineCapture.span (c : LineCapture) (last : Int) : Option (Int × Int) :=
  match c.firstFall with
  | none => none
  | some f =>
    if c.low = some true then some (f, last + 1)
    else match c.lastRise with
      | none => none
      | some r => some (f, r)

/-- The last tick of the GRADE window that opens at `start`, cut at `last` (R140, R158). -/
def gradeWindowEnd (start last : Int) : Int := if start + 511 ≤ last then start + 511 else last

/-- The best grade of the captures of a window whose last tick is `last` (R142). -/
def Captures.bestGrade (c : Captures) (last : Int) : Nat :=
  match c.gradeStart with
  | none => 0
  | some g =>
    match c.grade.span (gradeWindowEnd g last) with
    | none => 0
    | some (f, r) =>
      let q := (r - f + 32) / 64
      if q < 1 then 1 else if 7 < q then 7 else q.toNat

/-- A multiframe mark: BEAT low at every tick from the grade start through the grade start + 80, within
the window (R146, R158). -/
def Captures.markSeen (c : Captures) (last : Int) : Bool :=
  match c.gradeStart with
  | none => false
  | some g => !c.markBroken && decide (g + 80 ≤ last)

/-- The rail error f + r − 32, clamped (R143). -/
def railErrorOf (f r : Int) : Int := clampTo Config.maxError (f + r - 32)

/-- The LEAD midpoint of a LISTEN window (R158). -/
def midpointOf (f r : Int) : Nat := ((f + r - 32) / 2).toNat

/-- The last tick of the BEAT and LEAD windows, as a position (R140). -/
def WindowWidth.lastPosition : WindowWidth → Int
  | .narrow => 255
  | .wide => 2047
  | .listen => 2047

/-! Stamps (R111) -/

/-- The distance in office frames from one stamp to a later one (R111). -/
def stampDistance (a b : Stamp) : Int :=
  8000 * ((b.seconds - a.seconds).toNat : Int) + ((b.frame : Int) - (a.frame : Int))

/-! Gain factors (R83) -/

/-- The proportional factor P (R83). -/
def GainSet.factor : GainSet → Int
  | .acquire => 512
  | .track => 64

/-- The integral increment ΔI (R83). -/
def GainSet.increment : GainSet → Int → Int
  | .acquire, e => e
  | .track, e => (e + 4) / 8

/-! Grade (R122) -/

/-- The grade of a mode, gain set, class of the selected reference and hold age (R122). -/
def gradeOf (mode : Mode) (gain : GainSet) (cls : Option RefClass) (holdAge : Nat) : Option Nat :=
  match mode with
  | .listen => none
  | .track =>
    match gain with
    | .acquire => some 1
    | .track => some 2
  | .anchor => if cls = some .classA then some 7 else some 6
  | .hold => if holdAge < 900 then some 5 else if holdAge < 86400 then some 4 else some 3

end Sys2Proof.Machine
end

