-- ==== Sys2Proof/Machine/Ops.lean ====
section
/-! DEFINITION. The named operations over the state that several meanings share: access to one
tributary, the records, and the movements of the cell pool (chapters 02 and 04). -/

namespace Sys2Proof.Machine

/-! Access -/

/-- The station is out of reset: RSTn is high. While RSTn is asserted no block takes any event
(R155). -/
def State.running (s : State) : Bool := s.pins.rstn

/-- An event of a block: it changes the state when the station is out of reset, and nothing while RSTn
is asserted (R155). -/
def whenRunning (f : State → State) (s : State) : State := if s.running then f s else s

/-- One tributary. -/
def State.trib (s : State) (t : TribId) : Trib := s.tribs[t]

/-- Put a tributary in its place. -/
def State.setTrib (s : State) (t : TribId) (x : Trib) : State :=
  { s with tribs := s.tribs.set t x }

/-- Change a tributary's receiver. -/
def State.modRx (s : State) (t : TribId) (f : Receiver → Receiver) : State :=
  s.setTrib t { s.trib t with rx := f (s.trib t).rx }

/-- Change what a tributary holds of the pool. -/
def State.modStore (s : State) (t : TribId) (f : Store → Store) : State :=
  s.setTrib t { s.trib t with store := f (s.trib t).store }

/-- Change a tributary's record. -/
def State.modRecord (s : State) (t : TribId) (f : Record → Record) : State :=
  s.setTrib t { s.trib t with record := f (s.trib t).record }

/-- Set a tributary's store state and repeat-run length (R44). -/
def State.setStoreState (s : State) (t : TribId) (st : StoreState) (run : Nat) : State :=
  s.setTrib t { s.trib t with storeState := st, repeatRun := run }

/-- Fix the frame a tributary's output sends (R47). -/
def State.setOutFrame (s : State) (t : TribId) (f : BitVec 256) : State :=
  s.setTrib t { s.trib t with outFrame := f }

/-- Set the free count (R22). -/
def State.setFree (s : State) (n : Nat) : State := { s with free := n }

/-- The same change at every tributary. -/
def State.eachTrib (s : State) (f : TribId → Trib → Trib) : State :=
  { s with tribs := Vector.ofFn fun t => f t (s.trib t) }

/-- Tributary t is enabled (R1). -/
def State.enabled (s : State) (t : TribId) : Bool := decide (t.val < s.straps.tct.value)

/-- The depth limit DEP in force (R20). -/
def State.depth (s : State) : Nat := s.straps.dep.value

/-- The centre C in force (R20). -/
def State.centre (s : State) : Nat := s.straps.dep.centre

/-- The priority class of a tributary (R20). -/
def State.classOf (s : State) (t : TribId) : Fin 4 := s.straps.classOf t

/-- The stamp of the office frame in progress (R68, R94). -/
def State.stamp (s : State) : Stamp := { seconds := s.ftu.seconds, frame := s.ftu.frameInSecond }

/-! Holdings (R22, R23) -/

/-- Cells a tributary holds (R22). -/
def Store.holdings (x : Store) : Nat :=
  x.filling.toList.length + x.transmitting.toList.length + x.queue.length

/-- Holdings h_t (R22). -/
def State.holdings (s : State) (t : TribId) : Nat := (s.trib t).store.holdings

/-- The enabled tributaries. -/
def State.enabledTribs (s : State) : List TribId := allTribs.filter s.enabled

/-- Unmet floors U (R23). -/
def State.unmet (s : State) : Nat :=
  (s.enabledTribs.map fun t => Config.floorCells - s.holdings t).sum

/-- Shared cells in use (R23). -/
def State.sharedInUse (s : State) : Nat :=
  (s.enabledTribs.map fun t => s.holdings t - Config.floorCells).sum

/-- Shared cells free: the free count minus U (R23). -/
def State.sharedFree (s : State) : Nat := s.free - s.unmet

/-- Cells held by all sixteen tributaries (R22). -/
def State.held (s : State) : Nat := (allTribs.map s.holdings).sum

/-! Records (chapter 04) -/

/-- A slip report: the first-slip field if still absent, the last-slip field and the whole detail
(R69, R70, R71). -/
def Record.slip (r : Record) (kind : SlipKind) (stamp : Stamp) (frames queueBefore shared : Nat) : Record :=
  { r with
    firstSlip := some (r.firstSlip.getD ⟨kind, stamp⟩)
    lastSlip := some ⟨kind, stamp⟩
    detail := some ⟨kind, frames, queueBefore, shared⟩
    openRepeat := kind == .repeated }

/-- Report of the start of a repeat slip (R50, R67, R72, R74). -/
def Record.repeatStart (r : Record) (stamp : Stamp) (shared : Nat) : Record :=
  { r.slip .repeated stamp 1 0 shared with
    repeatEvents := r.repeatEvents + 1
    repeatedFrames := r.repeatedFrames + 1
    currentRun := 1 }

/-- Report of a continuation with the new run length (R51, R72). -/
def Record.repeatContinue (r : Record) (run : Nat) : Record :=
  { r with
    repeatedFrames := r.repeatedFrames + 1
    currentRun := run
    detail := if r.openRepeat then r.detail.map (fun d => { d with frames := run }) else r.detail }

/-- Report of the close of a repeat slip (R52, R73). -/
def Record.repeatClose (r : Record) : Record := { r with currentRun := 0, openRepeat := false }

/-- Report of a delete slip (R41, R67). -/
def Record.deleteSlip (r : Record) (stamp : Stamp) (frames depth shared : Nat) : Record :=
  { r.slip .delete stamp frames depth shared with
    deleteEvents := r.deleteEvents + 1
    deletedFrames := r.deletedFrames + BitVec.ofNat 16 frames }

/-- Report of a squeeze suffered, of kind OWN or EVICTED (R42, R67). -/
def Record.squeeze (r : Record) (kind : SlipKind) (stamp : Stamp) (queueBefore : Nat) : Record :=
  { r.slip kind stamp 1 queueBefore 0 with squeezes := r.squeezes + 1 }

/-- Report of an eviction on the requester (R42). -/
def Record.evictionCaused (r : Record) : Record :=
  { r with evictionsCaused := r.evictionsCaused + 1 }

/-- Report of an alignment loss (R14, R67). -/
def Record.alignLoss (r : Record) : Record := { r with alignLosses := r.alignLosses + 1 }

/-- Report of a dark entry (R5, R67). -/
def Record.darkEntry (r : Record) : Record := { r with darkEntries := r.darkEntries + 1 }

/-- A watermark offer with the frame-in-second of its stamp (R75, R76). -/
def Record.offer (r : Record) (frame len : Nat) : Record :=
  if frame = 0 then { r with low := r.runLow, high := r.runHigh, runLow := len, runHigh := len }
  else { r with runLow := min r.runLow len, runHigh := max r.runHigh len }

/-! Movements of the pool (R21) -/

/-- A cell newly provided for filling: nothing of its frame is written yet, and what the cell held is
visible nowhere (R12; notes/assumptions/10.md). -/
def freshPayload : Payload := 0

/-- Grant: from the free list to the requester's filling cell (R28, R29). -/
def State.grant (s : State) (t : TribId) : State :=
  (s.modStore t fun x => { x with filling := some freshPayload }).setFree (s.free - 1)

/-- Release of the filling cell to the free list, if one is held (R37). -/
def State.releaseFilling (s : State) (t : TribId) : State :=
  match (s.trib t).store.filling with
  | none => s
  | some _ => (s.modStore t fun x => { x with filling := none }).setFree (s.free + 1)

/-- Release of the transmitting cell to the free list, if one is held (R27). -/
def State.releaseTransmitting (s : State) (t : TribId) : State :=
  match (s.trib t).store.transmitting with
  | none => s
  | some _ => (s.modStore t fun x => { x with transmitting := none }).setFree (s.free + 1)

/-- Dequeue: the head of the queue becomes the transmitting cell, and the old transmitting cell is
released (R26). -/
def State.dequeue (s : State) (t : TribId) : State :=
  match (s.trib t).store.queue with
  | [] => s
  | c :: rest =>
    (s.releaseTransmitting t).modStore t fun x => { x with transmitting := some c, queue := rest }

/-- Tributary `v` may be the victim of a squeeze by `t` (R30). -/
def State.victimCandidate (s : State) (t v : TribId) : Bool :=
  decide (v ≠ t) && s.enabled v && decide (s.classOf v < s.classOf t) &&
    decide (Config.floorCells < s.holdings v) && decide ((s.trib v).store.queue ≠ [])

/-- Of two candidates, `a` is the victim before `b`: lower class, then greater holdings, then higher
number (R30). -/
def State.victimBefore (s : State) (a b : TribId) : Bool :=
  decide (s.classOf a < s.classOf b) ||
    (decide (s.classOf a = s.classOf b) &&
      (decide (s.holdings b < s.holdings a) ||
        (decide (s.holdings a = s.holdings b) && decide (b.val < a.val))))

/-- The victim of a squeeze by `t`, if there is a candidate (R30). -/
def State.victim (s : State) (t : TribId) : Option TribId :=
  (allTribs.filter (s.victimCandidate t)).foldl
    (fun best v => match best with
      | none => some v
      | some b => if s.victimBefore v b then some v else some b) none

/-- Eviction: the victim's oldest frame is lost and its cell becomes the requester's filling cell
(R31, R42). -/
def State.evict (s : State) (t v : TribId) : State :=
  let before := (s.trib v).store.queue.length
  let s1 := s.modStore v fun x => { x with queue := x.queue.drop 1 }
  let s2 := s1.modRecord v fun r => r.squeeze .evicted s.stamp before
  let s3 := s2.modStore t fun x => { x with filling := some freshPayload }
  let s4 := s3.modRecord t Record.evictionCaused
  s4.raise .squeeze

/-- Own drop: the requester discards its oldest frame and reuses the cell (R32, R42). -/
def State.ownDrop (s : State) (t : TribId) : State :=
  let before := (s.trib t).store.queue.length
  let s1 := s.modStore t fun x => { x with queue := x.queue.drop 1, filling := some freshPayload }
  let s2 := s1.modRecord t fun r => r.squeeze .own s.stamp before
  s2.raise .squeeze

/-- The cell request (R28, R29, R30, R33): granted under the floor, or while a shared cell is free;
otherwise a squeeze. -/
def State.cellRequest (s : State) (t : TribId) : State :=
  if s.holdings t < Config.floorCells then s.grant t
  else if s.unmet + 1 ≤ s.free then s.grant t
  else match s.victim t with
    | some v => s.evict t v
    | none => s.ownDrop t

/-- The delete slip of the overflow check (R35, R41). -/
def State.deleteSlip (s : State) (t : TribId) : State :=
  let n := s.straps.dep.deleted
  let s1 := s.modStore t fun x => { x with queue := x.queue.drop n }
  let s2 := s1.modRecord t fun r => r.deleteSlip s.stamp n s.depth s.sharedFree
  (s2.setFree (s.free + n)).raise .slip

/-- The overflow check (R34 step 1). -/
def State.overflowCheck (s : State) (t : TribId) : State :=
  if (s.trib t).store.queue.length = s.depth then s.deleteSlip t else s

/-- The append of the completed filling cell with its M bit (R34 step 2, R36). -/
def State.appendFilled (s : State) (t : TribId) (m : Bool) : State :=
  match (s.trib t).store.filling with
  | none => s
  | some p => s.modStore t fun x => { x with filling := none, queue := x.queue ++ [⟨p, m⟩] }

/-- The frame completion: overflow check, append, cell request, in that order (R34). -/
def State.completeFrame (s : State) (t : TribId) (m : Bool) : State :=
  ((s.overflowCheck t).appendFilled t m).cellRequest t

end Sys2Proof.Machine
end

