-- ==== Sys2Proof/Machine/Timing.lean ====
section
/-! DEFINITION. The frame timing unit (chapter 05), the station mode machine (chapter 07) and the
reference selector (chapter 06, sections 6.5 and 6.6): their shared operations. -/

namespace Sys2Proof.Machine

/-! The FTU at a boundary -/

/-- The length that a fraction and a frequency word give the next frame (R85). -/
def frameLengthOf (fraction frequency : Int) : Nat := (4096 + (fraction + frequency) / 65536).toNat

/-- The length and the fraction of the new frame: a join frame takes its length from the request and
leaves the fraction (R85, R86). -/
def Ftu.fixLength (f : Ftu) : Ftu :=
  match f.joinRequest with
  | some o => { f with length := 4096 + o, joinRequest := none }
  | none =>
    { f with
      length := frameLengthOf f.fraction f.frequency
      fraction := (f.fraction + f.frequency) % 65536 }

/-- The office index of the new frame, a pending request applied in place of the advance (R93). -/
def Ftu.nextIndex (f : Ftu) : BitVec 3 :=
  match f.indexRequest with
  | none => f.officeIndex + 1
  | some (.relabel k) => f.officeIndex + 1 - k
  | some (.setTo v) => v

/-- The office index advances or the request is applied and consumed (R93). -/
def Ftu.advanceIndex (f : Ftu) : Ftu := { f with officeIndex := f.nextIndex, indexRequest := none }

/-- Frame-in-second and the seconds counter advance (R94); a rollover in HOLD raises the hold age
(R95). -/
def Ftu.advanceSecond (f : Ftu) (mode : Mode) : Ftu :=
  if f.frameInSecond + 1 < Config.framesPerSecond then
    { f with frameInSecond := f.frameInSecond + 1 }
  else
    { f with
      frameInSecond := 0
      seconds := f.seconds + 1
      holdAge := if mode = .hold then satSucc Config.maxHoldAge f.holdAge else f.holdAge }

/-- The tick count returns to 0 and the new frame begins where the old one ended (R80). -/
def Ftu.restartTicks (f : Ftu) : Ftu := { f with tick := 0, frameStart := f.frameStart + f.length }

/-- The FTU's own work at a boundary (R80). -/
def Ftu.boundary (f : Ftu) (mode : Mode) : Ftu :=
  (f.restartTicks.fixLength.advanceIndex).advanceSecond mode

/-! The FTU at a measurement close -/

/-- S₀ = I′ + P × e (R84). -/
def Ftu.trialSum (f : Ftu) (e : Int) : Int :=
  f.integral + f.gain.increment e + f.gain.factor * e

/-- The integral word after a measured close: unchanged while the sum is out of range (R84). -/
def Ftu.nextIntegral (f : Ftu) (e : Int) : Int :=
  if -Config.maxFrequency ≤ f.trialSum e ∧ f.trialSum e ≤ Config.maxFrequency then
    clampTo Config.maxIntegral (f.integral + f.gain.increment e)
  else f.integral

/-- I + P × e with the new I, before the clamp (R84). -/
def Ftu.rawFrequency (f : Ftu) (e : Int) : Int := f.nextIntegral e + f.gain.factor * e

/-- The step of the holdover history toward 256 × I (R89). -/
def historyStep (history integral : Int) : Int := history + (256 * integral - history + 128) / 256

/-- The holdover history after a measured close (R89). -/
def Ftu.nextHistory (f : Ftu) (mode : Mode) (integral : Int) : Int :=
  if mode = .anchor ∧ f.gain = .track then historyStep f.history integral else f.history

/-- The RANGE run after a close; it is 0 again where it reaches 8000 (R96). -/
def nextRangeRun (clamped : Bool) (run : Nat) : Nat :=
  if clamped then (if run + 1 = 8000 then 0 else run + 1) else 0

/-- The close raises RANGE (R96). -/
def raisesRange (clamped : Bool) (run : Nat) : Bool := clamped && decide (run + 1 = 8000)

/-- The computation of F clamps (R96). -/
def Ftu.clamps (f : Ftu) (e : Int) : Bool :=
  decide (f.rawFrequency e < -Config.maxFrequency) || decide (Config.maxFrequency < f.rawFrequency e)

/-- Set a gain set; at a change both runs become 0 (R87). -/
def Ftu.setGain (f : Ftu) (g : GainSet) : Ftu := { f with gain := g, settleRun := 0, excursionRun := 0 }

/-- The run of the gain set in force at a measured close (R87). -/
def Ftu.countGain (f : Ftu) (e : Int) : Ftu :=
  match f.gain with
  | .acquire =>
    if e.natAbs ≤ 8 then
      if f.settleRun + 1 = 64 then f.setGain .track else { f with settleRun := f.settleRun + 1 }
    else { f with settleRun := 0 }
  | .track =>
    if 256 < e.natAbs then
      if f.excursionRun + 1 = 16 then f.setGain .acquire
      else { f with excursionRun := f.excursionRun + 1 }
    else { f with excursionRun := 0 }

/-- An unmeasured close (R82, R84, R96). -/
def Ftu.closeUnmeasured (f : Ftu) : Ftu :=
  { f with frequency := f.integral, lastError := none, rangeRun := 0 }

/-- A measured close with the clamped phase error `e` (R84, R87, R89, R96). -/
def Ftu.closeMeasured (f : Ftu) (mode : Mode) (e : Int) : Ftu :=
  ({ f with
      integral := f.nextIntegral e
      frequency := clampTo Config.maxFrequency (f.rawFrequency e)
      history := f.nextHistory mode (f.nextIntegral e)
      lastError := some e
      rangeRun := nextRangeRun (f.clamps e) f.rangeRun } : Ftu).countGain e

/-- The FTU's own work at a measurement close (R82, R84). -/
def Ftu.close (f : Ftu) (mode : Mode) (offered : Option Int) : Ftu :=
  match offered with
  | none => f.closeUnmeasured
  | some e => f.closeMeasured mode (clampTo Config.maxError e)

/-- Whether the close raises RANGE (R96). -/
def Ftu.closeRaisesRange (f : Ftu) (offered : Option Int) : Bool :=
  match offered with
  | none => false
  | some e => raisesRange (f.clamps (clampTo Config.maxError e)) f.rangeRun

/-- Entry to HOLD: I loaded from H, F set to I, hold age 0 (R91, R92, R95). -/
def Ftu.enterHold (f : Ftu) : Ftu :=
  let i := clampTo Config.maxIntegral ((f.history + 128) / 256)
  { f with integral := i, frequency := i, holdAge := 0 }

/-! Mode machine -/

/-- The class of the selected reference, if any. -/
def State.selectedClass (s : State) : Option RefClass :=
  match s.selector.selected with
  | none => none
  | some r => s.straps.refClass r

/-- The grade is recomputed (R122, R123). -/
def State.regrade (s : State) : State :=
  { s with modes := { s.modes with
      grade := gradeOf s.modes.mode s.ftu.gain s.selectedClass s.ftu.holdAge } }

/-- A change of the station mode: the FTU's runs, the offset run and the lead-absent run become 0, and
the grade is recomputed (R87, R123, R126, R128 to R130, R132, R144). -/
def State.changeMode (s : State) (m : Mode) : State :=
  ({ s with
      modes := { s.modes with mode := m, offsetRun := 0 }
      ftu := { s.ftu with settleRun := 0, excursionRun := 0 }
      rail := { s.rail with leadAbsentRun := 0 } } : State).regrade

/-- The gain set becomes ACQUIRE and both runs 0 (R88). -/
def State.acquire (s : State) : State := { s with ftu := s.ftu.setGain .acquire }

/-- The station is joined: in TRACK, ANCHOR or HOLD (R121). -/
def State.joined (s : State) : Bool := s.modes.mode != .listen

/-- Entry to HOLD with its reports (R128). -/
def State.enterHold (s : State) : State :=
  let s1 := { s with
    ftu := s.ftu.enterHold
    counters := { s.counters with holdEntries := s.counters.holdEntries + 1 } }
  (s1.raise .holdEntry).changeMode .hold

/-! Selector -/

/-- One monitor. -/
def State.monitor (s : State) : RefId → Monitor
  | .refA => s.monA
  | .refB => s.monB

/-- Put a monitor in its place. -/
def State.setMonitor (s : State) (r : RefId) (m : Monitor) : State :=
  match r with
  | .refA => { s with monA := m }
  | .refB => { s with monB := m }

/-- The reference is QUALIFIED. -/
def State.qualified (s : State) (r : RefId) : Bool := (s.monitor r).state == .qualified

/-- The build-out starts again on a newly selected reference (R114, R117). -/
def Selector.select (x : Selector) (r : RefId) : Selector :=
  { x with selected := some r, buildPending := true, offered := none }

/-- A first selection: the station enters ANCHOR (R114, R126). -/
def State.firstSelection (s : State) (r : RefId) : State :=
  ({ s with selector := s.selector.select r } : State).changeMode .anchor

/-- A switch of the selected reference (R114, R127). -/
def State.switchTo (s : State) (r : RefId) : State :=
  ({ s with
      selector := s.selector.select r
      counters := { s.counters with refSwitches := s.counters.refSwitches + 1 } } : State).regrade

/-- The reference a selection from none takes (R114). -/
def State.choice (s : State) : Option RefId :=
  match s.qualified .refA, s.qualified .refB with
  | false, false => none
  | true, false => some .refA
  | false, true => some .refB
  | true, true => if s.straps.betterRef .refB .refA then some .refB else some .refA

/-- The evaluation of the selector of a joined station (R114). -/
def State.evaluateSelector (s : State) : State :=
  match s.selector.selected with
  | none =>
    match s.choice with
    | none => s
    | some r => s.firstSelection r
  | some r =>
    if s.qualified r.other && s.straps.betterRef r.other r then s.switchTo r.other else s

/-- The loss of the selected reference `r` (R115, R128). -/
def State.loseSelected (s : State) (r : RefId) : State :=
  let s1 := ({ s with selector := { s.selector with offered := none } } : State).raise .refLoss
  if s.qualified r.other then s1.switchTo r.other
  else ({ s1 with selector := { s1.selector with selected := none } } : State).enterHold

end Sys2Proof.Machine
end

