-- ==== Sys2Proof/Machine/Rail.lean ====
section
/-! DEFINITION. The rail interface (chapter 08): the lines as read, captures, the grade start, what a
boundary drives, what a close forms, multiframe marks and relabelling. -/

namespace Sys2Proof.Machine

/-! Reading and driving the lines (R135) -/

/-- The pulse of this station in progress on a line. -/
def Pulses.get (p : Pulses) : RailLine → Option Nat
  | .beat => p.beat
  | .grade => p.grade
  | .lead => p.lead

/-- Set the pulse of a line. -/
def Pulses.put (p : Pulses) (line : RailLine) (x : Option Nat) : Pulses :=
  match line with
  | .beat => { p with beat := x }
  | .grade => { p with grade := x }
  | .lead => { p with lead := x }

/-- This station pulls the line low: its pulse has not yet reached its end (R135, R137). -/
def State.ownLow (s : State) (line : RailLine) : Bool :=
  match s.rail.pulses.get line with
  | none => false
  | some e => decide (s.ftu.crystal < e)

/-- The line as the backplane without this station drives it. -/
def InPins.line (p : InPins) : RailLine → Backplane
  | .beat => p.beat
  | .grade => p.grade
  | .lead => p.lead

/-- The level every station reads: low while some station pulls it low (R135), or as a fault holds it
(R152). -/
def State.lineLow (s : State) (line : RailLine) : Bool :=
  match s.pins.line line with
  | .pulledLow => true
  | .heldHigh => false
  | .released => s.ownLow line

/-! Captures (R140, R141) -/

/-- The captures of one line. -/
def Captures.get (c : Captures) : RailLine → LineCapture
  | .beat => c.beat
  | .grade => c.grade
  | .lead => c.lead

/-- Set the captures of one line. -/
def Captures.put (c : Captures) (line : RailLine) (x : LineCapture) : Captures :=
  match line with
  | .beat => { c with beat := x }
  | .grade => { c with grade := x }
  | .lead => { c with lead := x }

/-- The position of tick `t` as the rail reckons it: in the LISTEN window of the frame, or by R135 from
the nearest boundary; none for a tick that belongs to no window (R135, R158). -/
def State.railPosition (s : State) (t : Nat) : Option Int :=
  match s.rail.width with
  | .listen => if s.rail.listenWindow && decide (t < s.ftu.length) then some (t : Int) else none
  | _ =>
    let p := tickPosition s.ftu.length t
    if -2048 ≤ p ∧ p ≤ 2047 then some p else none

/-- Position p lies in the BEAT and LEAD windows of the width in force (R140). -/
def WindowWidth.holds (w : WindowWidth) (p : Int) : Bool :=
  match w with
  | .narrow => decide (-256 ≤ p) && decide (p ≤ 255)
  | _ => true

/-- Position p lies in the GRADE window, which opens at the grade start and runs for 512 ticks
(R140). -/
def Captures.gradeWindowHolds (c : Captures) (p : Int) : Bool :=
  match c.gradeStart with
  | none => false
  | some g => decide (g ≤ p) && decide (p ≤ g + 511)

/-- Position p lies in the open window of a line (R140). -/
def State.windowHolds (s : State) (line : RailLine) (p : Int) : Bool :=
  match line with
  | .grade => s.rail.caps.gradeWindowHolds p
  | _ => s.rail.width.holds p

/-- The position of tick `t` in the open window of a line, if it belongs to it (R135, R140, R158). -/
def State.linePosition (s : State) (line : RailLine) (t : Nat) : Option Int :=
  match s.railPosition t with
  | none => none
  | some p => if s.windowHolds line p then some p else none

/-- A fall read at position p: the earliest is the first fall (R141). -/
def LineCapture.fall (c : LineCapture) (p : Int) : LineCapture :=
  { c with firstFall := some (c.firstFall.getD p), low := some true, sawLow := true }

/-- A rise at position p ends a low level read at or after the first fall. A line that was low before the own
boundary, where the own-drive exception put the first fall, and is high from there shows no rise (R141). That a low
level at the tick of the first fall itself counts is read by inference (DEDUCED, notes/assumptions/21.md). -/
def LineCapture.risesAt (c : LineCapture) (p : Int) : Bool :=
  match c.firstFall with
  | none => false
  | some f => decide (f < p)

/-- A rise read at position p: the latest after the first fall is the last rise (R141). -/
def LineCapture.rise (c : LineCapture) (p : Int) : LineCapture :=
  { c with
    lastRise := if c.risesAt p then some p else c.lastRise
    low := some false
    sawLow := true }

/-- BEAT read high at position p breaks the mark of the window if it lies within 80 ticks of the grade
start (R146). -/
def Captures.breaksMark (c : Captures) (p : Int) : Bool :=
  match c.gradeStart with
  | none => false
  | some g => decide (g ≤ p) && decide (p ≤ g + 80)

/-- One change of a line at position p (R141). -/
def Captures.change (c : Captures) (line : RailLine) (ch : LineChange) (p : Int) : Captures :=
  match ch with
  | .fall => c.put line ((c.get line).fall p)
  | .rise =>
    let c1 := c.put line ((c.get line).rise p)
    if line = .beat then { c1 with markBroken := c.markBroken || c.breaksMark p } else c1

/-- Change the captures. -/
def State.setCaps (s : State) (c : Captures) : State := { s with rail := { s.rail with caps := c } }

/-- RAIL_LINE_CAPTURE's effect: a tick outside the line's window is not captured (R140, R141). -/
def State.takeCapture (s : State) (line : RailLine) (ch : LineChange) (t : Nat) : State :=
  match s.linePosition line t with
  | none => s
  | some p => s.setCaps (s.rail.caps.change line ch p)

/-- RAIL_LINE_CAPTURE (R141). -/
def execRailLineCapture (line : RailLine) (ch : LineChange) (t : Nat) (s : State) :
    Host.Outcome State Fault Refusal :=
  .next (whenRunning (fun s => s.takeCapture line ch t) s)

/-! The grade start (R139) -/

/-- The grade start that the captures give: the first fall of BEAT, or the own boundary of a joined
station that has seen none (R139). -/
def State.gradeStartPosition (s : State) : Option Int :=
  match s.rail.caps.beat.firstFall with
  | some f => some f
  | none => if s.joined then some 0 else none

/-- The GRADE pulse of a joined station: 64 × g ticks for the grade g held (R139). -/
def State.pullGrade (s : State) : State :=
  match s.joined, s.modes.grade with
  | true, some g =>
    { s with rail := { s.rail with
        pulses := s.rail.pulses.put .grade (some (s.ftu.crystal + 64 * g))
        caps := { s.rail.caps with pulseGrade := some g } } }
  | _, _ => s

/-- The GRADE window opens at position p: a line read low at its opening tick counts as falling there
(R141), and BEAT not read low there breaks the mark (R146). -/
def State.openGradeWindow (s : State) (p : Int) : State :=
  let low := s.lineLow .grade
  s.setCaps { s.rail.caps with
    gradeStart := some p
    markBroken := !s.lineLow .beat
    grade := { LineCapture.blank with
      firstFall := if low then some p else none
      low := some low
      sawLow := low } }

/-- GRADE_START's effect: at most one grade start in a window (R139). -/
def State.takeGradeStart (s : State) : State :=
  match s.rail.caps.gradeStart with
  | some _ => s
  | none =>
    match s.gradeStartPosition with
    | none => s
    | some p => s.pullGrade.openGradeWindow p

/-- GRADE_START (R139). -/
def execGradeStart (s : State) : Host.Outcome State Fault Refusal := .next (whenRunning State.takeGradeStart s)

/-- PULSE_END's effect: the line is released (R135, R137). -/
def State.takePulseEnd (s : State) (line : RailLine) : State :=
  { s with rail := { s.rail with pulses := s.rail.pulses.put line none } }

/-- PULSE_END (R137). -/
def execPulseEnd (line : RailLine) (s : State) : Host.Outcome State Fault Refusal :=
  .next (whenRunning (fun s => s.takePulseEnd line) s)

/-! Driving at a boundary (R137, R138) -/

/-- A station drives LEAD in the frame beginning when its grade is at least the best grade (R138). -/
def State.drivesLead (s : State) : Bool := decide (s.rail.bestGrade ≤ s.modes.grade.getD 0)

/-- Ticks of the BEAT pulse of the frame beginning (R137). -/
def beatTicks (index : BitVec 3) (lead : Bool) : Nat := if index = 0 ∧ lead = true then 96 else 32

/-- The own-drive exception of R141: a station that begins a pulse at its own boundary takes that
boundary as the first fall if it has seen none. The level of the tick before stands until the line is read, so
that a line that rises there against the pulse (a fault) shows its rise (R141, R146). -/
def LineCapture.ownFall (c : LineCapture) : LineCapture := { c with firstFall := some (c.firstFall.getD 0) }

/-- The captures of a line on which a pulse begins at the own boundary. -/
def State.captureOwn (s : State) (line : RailLine) : State :=
  s.setCaps (s.rail.caps.put line (s.rail.caps.get line).ownFall)

/-- A joined station at a boundary: the driven grade is taken, the LEAD test is made, and the pulses of
the frame begin (R124, R137, R138, R141). -/
def State.driveRail (s : State) : State :=
  let lead := s.drivesLead
  let p1 := s.rail.pulses.put .beat (some (s.ftu.crystal + beatTicks s.ftu.officeIndex lead))
  let p2 := if lead then p1.put .lead (some (s.ftu.crystal + 32)) else p1
  let s1 := { s with rail := { s.rail with
      drivenGrade := s.modes.grade
      drivingLead := lead
      pulses := p2 } }
  let s2 := s1.captureOwn .beat
  if lead then s2.captureOwn .lead else s2

/-- A LISTEN window, if the frame that ends had one, is held for the next close; otherwise nothing is
held (R158). -/
def State.closeListenWindow (s : State) : State :=
  { s with rail := { s.rail with
      held :=
        if s.rail.listenWindow then
          some { caps := s.rail.caps, length := s.ftu.length, index := s.ftu.officeIndex }
        else none } }

/-- The windows of a frame begun in LISTEN: a join frame has no LISTEN window, any other frame has one
from its boundary, and windows fixed before are discarded (R158). -/
def State.openListenWindow (s : State) (isJoinFrame : Bool) : State :=
  { s with rail := { s.rail with
      width := .listen
      caps := Captures.blank
      listenWindow := !isJoinFrame } }

/-- The rail interface at a boundary, after the mode machine's work there. -/
def State.railBoundary (s : State) (isJoinFrame : Bool) : State :=
  if s.joined then
    ({ s with rail := { s.rail with listenWindow := false } } : State).driveRail
  else s.openListenWindow isJoinFrame

/-! What a close forms (R142, R143) -/

/-- Best grade, rail error and LEAD spread of captures: `last` is the last tick of the LEAD window, and the
GRADE window is cut at `cut` if that comes before its 512 ticks are over (R140, R158). Only a joined station
forms a rail error (R142, R143; notes/assumptions/18.md). -/
def State.formResults (s : State) (c : Captures) (last cut : Int) : State :=
  let span := c.lead.span last
  { s with rail := { s.rail with
      bestGrade := c.bestGrade cut
      railError := if s.joined then span.map (fun q => railErrorOf q.1 q.2) else none
      leadSpread := match span with
        | none => 0
        | some q => q.2 - q.1 } }

/-- The rail's results at a close: from the open windows of a joined station, whose GRADE window the close
alone cuts, whatever the width of the others (R140), or from the held LISTEN window; a close that processes no
window forms a best grade of 0 (R142, R143, R158). -/
def State.formAtClose (s : State) : State :=
  if s.joined then s.formResults s.rail.caps s.rail.width.lastPosition (Config.closeTick : Int)
  else match s.rail.held with
    | none => s.formResults Captures.blank 0 0
    | some h => s.formResults h.caps ((h.length : Int) - 1) ((h.length : Int) - 1)

/-! Lead loss (R144) -/

/-- A lead loss with its reports (R144). -/
def State.loseLead (s : State) : State :=
  let s1 := { s with
    rail := { s.rail with leadAbsentRun := 0 }
    counters := { s.counters with leadLost := s.counters.leadLost + 1 } }
  (s1.acquire).raise .leadLost

/-- The lead-absent run at a close in TRACK (R144). -/
def State.countLeadAbsent (s : State) : State :=
  if s.modes.mode = .track then
    match s.rail.railError with
    | some _ => { s with rail := { s.rail with leadAbsentRun := 0 } }
    | none =>
      if s.rail.leadAbsentRun + 1 = 64 then s.loseLead
      else { s with rail := { s.rail with leadAbsentRun := s.rail.leadAbsentRun + 1 } }
  else s

/-! Multiframe marks (R146 to R150) -/

/-- The indices a mark set may hold, lowest first. -/
def markIndices : List Nat := [1, 2, 3, 4, 5, 6, 7]

/-- Add k to a mark set, which stays in rising order (R146). -/
def addMark (marks : List Nat) (k : Nat) : List Nat :=
  markIndices.filter fun j => decide (j = k) || marks.contains j

/-- The mark state emptied (R146). -/
def Rail.clearMarks (r : Rail) : Rail := { r with markSet := [], markCand := none, markRun := 0 }

/-- The mark evaluation at a joined station's close (R146). -/
def State.noteMark (s : State) : State :=
  if s.rail.width = .narrow then
    if s.rail.caps.markSeen 255 && decide (s.ftu.officeIndex ≠ 0) then
      { s with rail := { s.rail with markSet := addMark s.rail.markSet s.ftu.officeIndex.toNat } }
    else s
  else { s with rail := s.rail.clearMarks }

/-- Step 1 of the multiframe close: candidate and run, a new candidate being the lowest index of the set
(R147). -/
def Rail.countMark (r : Rail) : Rail :=
  match r.markSet.min?, r.markCand with
  | none, _ => { r with markCand := none, markRun := 0 }
  | some k, none => { r with markCand := some k, markRun := 1 }
  | some k, some c =>
    if r.markSet.contains c then { r with markRun := satSucc 4 r.markRun }
    else { r with markCand := some k, markRun := 1 }

/-- The relabel test for candidate k (R148). -/
def Rail.relabelPasses (r : Rail) (k : Nat) : Bool :=
  if r.drivingLead then
    if k ≤ 3 then decide (4 ≤ r.markRun)
    else if k = 4 then decide (4 ≤ r.markRun) && decide (r.backoff = 0)
    else false
  else decide (2 ≤ r.markRun)

/-- The relabel stamps with a new one at the end, at most eight kept (R150). -/
def pushStamp (stamps : List Stamp) (x : Stamp) : List Stamp :=
  let l := stamps ++ [x]
  l.drop (l.length - 8)

/-- Eight relabels span less than 8000 frames (R150). -/
def relabelPace (stamps : List Stamp) : Bool :=
  match stamps with
  | a :: rest =>
    decide (stamps.length = 8) && decide (stampDistance a (rest.getLastD a) < 8000)
  | [] => false

/-- A relabel by k with its reports (R149, R150). -/
def State.relabelBy (s : State) (k : Nat) : State :=
  let stamps := pushStamp s.rail.relabelStamps s.stamp
  let s1 := { s with
    ftu := { s.ftu with indexRequest := some (.relabel (BitVec.ofNat 3 k)) }
    counters := { s.counters with relabels := s.counters.relabels + 1 }
    rail := { s.rail with
      backoff := 8 * (s.straps.stn.val + 1)
      markCand := none
      markRun := 0
      relabelStamps := stamps } }
  if relabelPace stamps then s1.raise .relabel else s1

/-- Step 3 of the multiframe close: the backoff counts down (R147). -/
def State.countBackoff (s : State) : State :=
  { s with rail := { s.rail with backoff := s.rail.backoff - 1 } }

/-- Steps 2 and 3 of the multiframe close (R147). -/
def State.relabelStep (s : State) : State :=
  match s.rail.markCand with
  | none => s.countBackoff
  | some k => if s.rail.relabelPasses k then s.relabelBy k else s.countBackoff

/-- The multiframe close of a joined station (R147). -/
def State.closeMultiframe (s : State) : State :=
  let s1 := ({ s with rail := s.rail.countMark } : State).relabelStep
  { s1 with rail := { s1.rail with markSet := [] } }

/-- The marks at a close: evaluation, and the multiframe close in an index-7 frame; in LISTEN only the
backoff counts down (R146, R147). -/
def State.marksAtClose (s : State) : State :=
  if s.joined then
    if s.ftu.officeIndex = 7 then s.noteMark.closeMultiframe else s.noteMark
  else if s.ftu.officeIndex = 7 then s.countBackoff
  else s

/-- The width of the next windows, read from mode and gain set at the tick after the close (R140);
those of the first joined frame are wide (R140, R161). -/
def State.nextWidth (s : State) : WindowWidth :=
  if s.joined then
    match s.ftu.gain with
    | .track => .narrow
    | .acquire => .wide
  else if s.listen.phase = .joinFrame then .wide
  else .listen

/-- The close clears the captures it has processed and fixes the next width (R140, R141). A LISTEN
window in progress stays open; the held one has been processed (R158). -/
def State.renewWindows (s : State) : State :=
  { s with rail := { s.rail with
      width := s.nextWidth
      held := none
      caps := if s.nextWidth = .listen then s.rail.caps else Captures.blank } }

end Sys2Proof.Machine
end

