-- ==== Sys2Proof/Machine/Listening.lean ====
section
/-! DEFINITION. The LISTEN procedure, the join and withdrawal (chapter 09), with the mode machine's
transitions at a boundary and at a close that they share (chapter 07). -/

namespace Sys2Proof.Machine

/-! The counts of R159 -/

/-- To start afresh: every field but the two withdrawal fields takes its reset value (R157). -/
def Listen.afresh (x : Listen) : Listen :=
  { Listen.reset with
    withdrawn := x.withdrawn
    withdrawRequest := x.withdrawRequest
    ejSampled := x.ejSampled }

/-- LEAD seen with midpoint m, or not seen (R159 step 1). -/
def Listen.countMidpoint (x : Listen) (m : Option Nat) : Listen :=
  match m with
  | none => { x with runMidpoint := none, runCount := 0 }
  | some m =>
    match x.runMidpoint with
    | none => { x with latestMidpoint := some m, runMidpoint := some m, runCount := 1 }
    | some r =>
      if ((m : Int) - (r : Int)).natAbs ≤ 8 then
        { x with latestMidpoint := some m, runCount := satSucc 16 x.runCount }
      else { x with latestMidpoint := some m, runMidpoint := some m, runCount := 1 }

/-- A silent frame, or any other (R159 step 1). -/
def Listen.countSilence (x : Listen) (silent : Bool) : Listen :=
  { x with silentRun := if silent then satSucc 16 x.silentRun else 0 }

/-- A mark seen, or not, in the window of a frame of the given index (R159 step 1). -/
def Listen.countMark (x : Listen) (seen : Bool) (index : BitVec 3) : Listen :=
  if seen then
    if x.markIndex = some index then { x with markCount := satSucc 2 x.markCount }
    else { x with markIndex := some index, markCount := 1 }
  else if x.markIndex = some index then { x with markIndex := none, markCount := 0 }
  else x

/-- What a held LISTEN window shows (R158). -/
structure WindowReading where
  midpoint : Option Nat
  mark : Bool
  silent : Bool
  index : BitVec 3
  deriving DecidableEq, Repr

/-- The reading of a held window (R158). -/
def HeldWindow.reading (h : HeldWindow) : WindowReading where
  midpoint := (h.caps.lead.span ((h.length : Int) - 1)).map fun q => midpointOf q.1 q.2
  mark := h.caps.markSeen ((h.length : Int) - 1)
  silent := !h.caps.beat.sawLow && !h.caps.lead.sawLow
  index := h.index

/-- All the counts of one window (R159 step 1). -/
def Listen.count (x : Listen) (w : WindowReading) : Listen :=
  ((({ x with frameCount := satSucc 1024 x.frameCount } : Listen).countMidpoint w.midpoint).countSilence
    w.silent).countMark w.mark w.index

/-- The join offset that the counts decide, and whether the join is forced (R159 step 2). -/
def Listen.decision (x : Listen) : Option (Nat × Bool) :=
  if x.withdrawRequest then none
  else if 16 ≤ x.runCount then some (x.latestMidpoint.getD 0, false)
  else if 16 ≤ x.silentRun then some (0, false)
  else if 1024 ≤ x.frameCount then some (x.latestMidpoint.getD 0, true)
  else none

/-- A join request with offset o is handed to the FTU (R159). -/
def State.requestJoin (s : State) (o : Nat) : State :=
  { s with
    listen := { s.listen with phase := .joinPending, offset := some o }
    ftu := { s.ftu with joinRequest := some o } }

/-- The decision is carried out; a forced join raises OFFSET (R159). -/
def State.decideJoin (s : State) : State :=
  match s.listen.decision with
  | none => s
  | some (o, forced) => if forced then (s.requestJoin o).raise .offset else s.requestJoin o

/-- The index that the set request of the join carries (R160). -/
def Listen.joinIndex (x : Listen) (index : BitVec 3) : Option (BitVec 3) :=
  if x.markCount = 2 then x.markIndex.map fun k => index + 1 - k else none

/-- The join procedure at a close of a station in LISTEN, with the window processed there (R159,
R160). -/
def State.listenAtClose (s : State) (held : Option HeldWindow) : State :=
  if s.joined then s
  else match s.listen.phase with
    | .running =>
      match s.listen.withdrawn, held with
      | false, some h => ({ s with listen := s.listen.count h.reading } : State).decideJoin
      | _, _ => s
    | .joinPending => s
    | .joinFrame =>
      match s.listen.joinIndex s.ftu.officeIndex with
      | none => s
      | some v => { s with ftu := { s.ftu with indexRequest := some (.setTo v) } }

/-! Withdrawal, the join, starting afresh -/

/-- A joined station enters LISTEN at the boundary of withdrawal (R116, R130, R138, R146, R163). -/
def State.leaveShelf (s : State) : State :=
  let s1 := s.changeMode .listen
  { s1 with
    ftu := { s1.ftu with frequency := s1.ftu.integral }
    selector := { s1.selector with selected := none, offered := none, buildPending := false }
    rail := { s1.rail.clearMarks with drivenGrade := none, drivingLead := false } }

/-- A pending withdrawal request is taken (R163). -/
def State.takeWithdrawal (s : State) : State :=
  let s1 := if s.joined then s.leaveShelf else s
  { s1 with listen := { s1.listen with
      withdrawn := true
      withdrawRequest := false
      phase := .running
      offset := none } }

/-- The join at the boundary that ends the join frame (R125, R161). R161 resets the counts and midpoints and is
silent on the mark index; that it becomes absent with its count is read by inference (DEDUCED,
notes/assumptions/41.md). -/
def State.takeJoin (s : State) : State :=
  let s1 := s.acquire
  let s2 := match s1.choice with
    | some r => s1.firstSelection r
    | none => s1.changeMode .track
  { s2 with
    listen := s2.listen.afresh
    rail := s2.rail.clearMarks }

/-- Withdrawal ends and the procedure starts afresh; the window of the frame before is not processed
(R158, R164). -/
def State.startAfresh (s : State) : State :=
  { s with
    listen := { s.listen.afresh with withdrawn := false }
    rail := { s.rail with held := none } }

/-- The passage of a boundary: a withdrawal request, the end of the join frame, the end of withdrawal,
or the beginning of the join frame (R161, R163, R164, R86). -/
def State.passage (s : State) (ej begins : Bool) : State :=
  if s.listen.withdrawRequest then s.takeWithdrawal
  else if s.listen.phase = .joinFrame then s.takeJoin
  else if s.listen.withdrawn && !ej then s.startAfresh
  else if begins then { s with listen := { s.listen with phase := .joinFrame } }
  else s

/-- EJ_RISING_EDGE's effect: the request is set, and a pending join is cleared (R163). -/
def State.takeEjRise (s : State) : State :=
  let s1 := { s with
    listen := { s.listen with withdrawRequest := true }
    pins := { s.pins with ej := true } }
  if s.listen.phase = .joinPending then
    { s1 with
      listen := { s1.listen with phase := .running, offset := none }
      ftu := { s1.ftu with joinRequest := none } }
  else s1

/-- EJ_RISING_EDGE (R163). -/
def execEjRisingEdge (s : State) : Host.Outcome State Fault Refusal := .next (whenRunning State.takeEjRise s)

/-! The mode machine at a close -/

/-- The HOLD test: the best grade exceeds the grade held, the driven grade and the pulse grade (R129). -/
def State.holdTest (s : State) : Bool :=
  decide (s.modes.mode = .hold) && decide (s.modes.grade.getD 0 < s.rail.bestGrade) &&
    decide (s.rail.drivenGrade.getD 0 < s.rail.bestGrade) &&
    decide (s.rail.caps.pulseGrade.getD 0 < s.rail.bestGrade)

/-- HOLD to TRACK with ACQUIRE (R129). -/
def State.followBetter (s : State) : State := s.acquire.changeMode .track

/-- The offset run counts at this close (R132). -/
def State.offsetCounts (s : State) : Bool :=
  match s.rail.railError with
  | some e => decide (256 < e.natAbs)
  | none => !s.rail.drivingLead

/-- The offset run at a close in ANCHOR (R132). -/
def State.countOffset (s : State) : State :=
  if s.modes.mode = .anchor then
    if s.offsetCounts then
      if s.modes.offsetRun + 1 = 8000 then
        ({ s with modes := { s.modes with offsetRun := 0 } } : State).raise .offset
      else { s with modes := { s.modes with offsetRun := s.modes.offsetRun + 1 } }
    else { s with modes := { s.modes with offsetRun := 0 } }
  else s

/-- The phase error offered for a close by the source that the mode names (R82). -/
def State.offeredError (s : State) : Option Int :=
  match s.modes.mode with
  | .listen => none
  | .track => s.rail.railError
  | .anchor => s.selector.offered
  | .hold => none

/-- The FTU's close, with RANGE (R84, R96); in ANCHOR the selector's offer is used up (R118). -/
def State.ftuClose (s : State) : State :=
  let e := s.offeredError
  let s1 := { s with
    ftu := s.ftu.close s.modes.mode e
    selector :=
      if s.modes.mode = .anchor then { s.selector with offered := none } else s.selector }
  if s.ftu.closeRaisesRange e then s1.raise .range else s1

/-- The work of a close that reads the mode: lead-absent run, FTU, offset run (R84, R132, R144). -/
def State.closeWork (s : State) : State := s.countLeadAbsent.ftuClose.countOffset

/-- The close of the timing blocks, with the HOLD test taken before or after it (R97, R129). -/
def State.closeModes (s : State) (testFirst : Bool) : State :=
  if s.holdTest then
    if testFirst then s.followBetter.closeWork else s.closeWork.followBetter
  else s.closeWork

/-- MEASUREMENT_CLOSE's effect (R80, R84, R123, R140, R142, R158). -/
def State.takeClose (s : State) : State :=
  let held := s.rail.held
  let s1 := s.formAtClose
  let s2 := s1.closeModes (Config.holdTestBeforeClose s.choiceSeq)
  let s3 := (s2.marksAtClose).listenAtClose held
  let s4 := s3.regrade.renewWindows
  { s4 with choiceSeq := s.choiceSeq + 1 }

/-- MEASUREMENT_CLOSE (R84). -/
def execMeasurementClose (s : State) : Host.Outcome State Fault Refusal := .next (whenRunning State.takeClose s)

end Sys2Proof.Machine
end

