-- ==== Sys2Proof/Machine/Readout.lean ====
section
/-! DEFINITION. Readout and slip control (chapter 03): the decision of each enabled tributary at an office
boundary, and the watermark offer that follows it. -/

namespace Sys2Proof.Machine

/-- What a boundary decides for one tributary (R47). -/
inductive ReadoutAction where
  | stayFill
  | dequeue
  | goIdle
  | startRepeat
  | continueRepeat
  deriving DecidableEq, Repr

/-- The decision of a store state, alignment, queue length and centre (R48 to R52). -/
def readoutAction (st : StoreState) (aligned : Bool) (len centre : Nat) : ReadoutAction :=
  match st with
  | .idle => .stayFill
  | .prime =>
    if centre ≤ len then .dequeue
    else if aligned then .stayFill
    else if 1 ≤ len then .dequeue
    else .goIdle
  | .normal =>
    if 1 ≤ len then .dequeue
    else if aligned then .startRepeat
    else .goIdle
  | .refill =>
    if aligned then (if len < centre then .continueRepeat else .dequeue)
    else if 1 ≤ len then .dequeue
    else .goIdle

/-- The frame sent from the transmitting cell, with the office index of the frame now beginning (R56); a
tributary without one sends fill (R57). -/
def State.transmitFrame (s : State) (t : TribId) : BitVec 256 :=
  match (s.trib t).store.transmitting with
  | none => fillFrame s.ftu.officeIndex
  | some c => cellFrame s.ftu.officeIndex c

/-- The output goes on with its transmitting cell. -/
def State.sendCell (s : State) (t : TribId) : State := s.setOutFrame t (s.transmitFrame t)

/-- The output sends a fill frame (R57). -/
def State.sendFill (s : State) (t : TribId) : State := s.setOutFrame t (fillFrame s.ftu.officeIndex)

/-- Readout reports the close of a repeat slip where one was in progress (R52). -/
def State.closeRepeat (s : State) (t : TribId) : State :=
  if (s.trib t).storeState = .refill then s.modRecord t Record.repeatClose else s

/-- Carry out one decision. `shared` is the number of shared cells free when the boundary was taken
(R50). -/
def State.applyReadout (s : State) (t : TribId) (shared : Nat) : ReadoutAction → State
  | .stayFill => s.sendFill t
  | .dequeue => (((s.closeRepeat t).dequeue t).setStoreState t .normal 0).sendCell t
  | .goIdle => (((s.closeRepeat t).releaseTransmitting t).setStoreState t .idle 0).sendFill t
  | .startRepeat =>
    (((s.setStoreState t .refill 1).modRecord t fun r => r.repeatStart s.stamp shared).raise .slip).sendCell t
  | .continueRepeat =>
    let run := satSucc 255 (s.trib t).repeatRun
    ((s.setStoreState t .refill run).modRecord t fun r => r.repeatContinue run).sendCell t

/-- The decision that the boundary makes for a tributary as it stands (R47). -/
def State.readoutDecision (s : State) (t : TribId) : ReadoutAction :=
  readoutAction (s.trib t).storeState ((s.trib t).rx.align == .aligned) (s.trib t).store.queue.length
    s.centre

/-- The offer of the queue length after the decision (R55, R75, R76). -/
def State.offer (s : State) (t : TribId) : State :=
  s.modRecord t fun r => r.offer s.ftu.frameInSecond (s.trib t).store.queue.length

/-- Readout at a boundary for one tributary; a disabled one only sends fill (R44, R47, R55, R57). -/
def State.readoutTrib (s : State) (shared : Nat) (t : TribId) : State :=
  if s.enabled t then (s.applyReadout t shared (s.readoutDecision t)).offer t else s.sendFill t

/-- Readout at a boundary, all sixteen tributaries (R47). -/
def State.readoutBoundary (s : State) : State :=
  let shared := s.sharedFree
  allTribs.foldl (fun s t => s.readoutTrib shared t) s

end Sys2Proof.Machine
end

