-- ==== Sys2Proof/Machine/Receiver.lean ====
section
/-! DEFINITION. The tributary receivers (chapter 01): what one rising edge of LCKt does in each alignment
state, and the dark entry. The six rows that deliver a bit are six occasions of one rising edge (R3);
each has its meaning here. -/

namespace Sys2Proof.Machine

/-! The receiver's own record -/

/-- Every edge reloads the dark timer (R4). -/
def Receiver.reload (x : Receiver) : Receiver := { x with darkTimer := some Config.darkTicks }

/-- Leaving DARK: the window holds the bit alone (R7). -/
def Receiver.leaveDark (x : Receiver) (bit : Bool) : Receiver :=
  { x.reload with align := .search, window := [bit] }

/-- A bit in SEARCH that completes no candidate (R9). -/
def Receiver.searchBit (x : Receiver) (bit : Bool) : Receiver :=
  { x.reload with window := pushWindow x.window bit }

/-- The candidate found at this bit (R9). -/
def Receiver.candidate (x : Receiver) (bit : Bool) : Receiver :=
  let w := pushWindow x.window bit
  { x.reload with
    window := w
    candIndex := octetIndex (octetOf w)
    lastSync := octetOf w
    verifyStep := .first
    countdown := 256
    align := .verify }

/-- A bit in VERIFY before the check (R10). -/
def Receiver.verifyBit (x : Receiver) (bit : Bool) : Receiver :=
  { x.reload with octet := pushBit x.octet bit, countdown := x.countdown - 1 }

/-- The octet under check once this bit is in (R10, R12). -/
def Receiver.octetWith (x : Receiver) (bit : Bool) : Octet := pushBit x.octet bit

/-- The index the check in VERIFY requires (R10). -/
def Receiver.verifyIndex (x : Receiver) : BitVec 3 :=
  match x.verifyStep with
  | .first => x.candIndex + 1
  | .second => x.candIndex + 2

/-- The check in VERIFY is good (R10). -/
def Receiver.verifyGood (x : Receiver) (bit : Bool) : Bool :=
  goodOctet (x.octetWith bit) x.verifyIndex

/-- What every check in VERIFY writes, good or not (R8, R10). -/
def Receiver.checked (x : Receiver) (bit : Bool) : Receiver :=
  { x.reload with octet := x.octetWith bit, lastSync := x.octetWith bit, countdown := 0 }

/-- A good first check (R10). -/
def Receiver.toSecond (x : Receiver) (bit : Bool) : Receiver :=
  { x.checked bit with verifyStep := .second, countdown := 256 }

/-- A check that is not good (R10). -/
def Receiver.backToSearch (x : Receiver) (bit : Bool) : Receiver :=
  { x.checked bit with align := .search, window := [] }

/-- Entry to ALIGNED at a good second check (R11). -/
def Receiver.enterAligned (x : Receiver) (bit : Bool) : Receiver :=
  { x.checked bit with
    align := .aligned
    expected := x.candIndex + 3
    badRun := 0
    bitPos := 8
    mLatch := octetM (x.octetWith bit) }

/-- A bit of the sync octet before position 7 (R12). -/
def Receiver.syncBit (x : Receiver) (bit : Bool) : Receiver :=
  { x.reload with octet := pushBit x.octet bit, bitPos := x.bitPos + 1 }

/-- The sync octet at position 7 is good (R13). -/
def Receiver.syncGood (x : Receiver) (bit : Bool) : Bool := goodOctet (x.octetWith bit) x.expected

/-- The bad-run count that the check at position 7 leaves (R13). -/
def Receiver.nextBadRun (x : Receiver) (bit : Bool) : Nat :=
  if x.syncGood bit then 0 else x.badRun + 1

/-- The check at position 7: last received sync octet, M latch, bad-run count, flywheel (R12, R13). -/
def Receiver.syncCheck (x : Receiver) (bit : Bool) : Receiver :=
  { x.reload with
    octet := x.octetWith bit
    lastSync := x.octetWith bit
    mLatch := octetM (x.octetWith bit)
    badRun := x.nextBadRun bit
    expected := x.expected + 1
    bitPos := x.bitPos + 1 }

/-- Loss of alignment (R14). -/
def Receiver.loseAlignment (x : Receiver) : Receiver :=
  { x with align := .search, window := [], badRun := 0 }

/-- A payload bit (R12). The position returns from 255 to 0. -/
def Receiver.payloadBit (x : Receiver) : Receiver := { x.reload with bitPos := x.bitPos + 1 }

/-- The dark entry, with what it discards in the state it leaves (R5; notes/assumptions/11.md). -/
def Receiver.darkEntry (x : Receiver) : Receiver :=
  let y := { x with align := .dark, darkTimer := none }
  match x.align with
  | .dark => y
  | .search => { y with window := [] }
  | .verify => { y with candIndex := 0, verifyStep := .first, countdown := 0 }
  | .aligned => { y with badRun := 0 }

/-! One edge, by its occasion -/

/-- What a rising edge of LCKt with its bit is an occasion of (R3). -/
inductive EdgeKind where
  | ignored
  | leaveDark
  | search
  | candidate
  | verify
  | verifyCheck
  | sync
  | syncCheck
  | payload
  | completion
  deriving DecidableEq, Repr

/-- The occasion of an edge at a receiver in this record (R3, R9, R10, R12). -/
def Receiver.edgeKind (x : Receiver) (bit : Bool) : EdgeKind :=
  match x.align with
  | .dark => .leaveDark
  | .search => if windowMatches (pushWindow x.window bit) then .candidate else .search
  | .verify => if x.countdown ≤ 1 then .verifyCheck else .verify
  | .aligned =>
    if x.bitPos.toNat < 7 then .sync
    else if x.bitPos.toNat = 7 then .syncCheck
    else if x.bitPos.toNat < 255 then .payload
    else .completion

/-- The occasion of an edge at tributary t: a disabled receiver, and a station in reset, do not act on
it (R1, R2). -/
def State.edgeKind (s : State) (t : TribId) (bit : Bool) : EdgeKind :=
  if s.running && s.enabled t then (s.trib t).rx.edgeKind bit else .ignored

/-- LEAVE_DARK's effect (R7). -/
def State.takeLeaveDark (s : State) (t : TribId) (bit : Bool) : State :=
  s.modRx t fun x => x.leaveDark bit

/-- A bit in SEARCH without a candidate (R9). -/
def State.takeSearchBit (s : State) (t : TribId) (bit : Bool) : State :=
  s.modRx t fun x => x.searchBit bit

/-- CANDIDATE's effect (R9). -/
def State.takeCandidate (s : State) (t : TribId) (bit : Bool) : State :=
  s.modRx t fun x => x.candidate bit

/-- A bit in VERIFY before the check (R10). -/
def State.takeVerifyBit (s : State) (t : TribId) (bit : Bool) : State :=
  s.modRx t fun x => x.verifyBit bit

/-- Readout at a receiver's entry to ALIGNED: an IDLE store becomes PRIME (R46). -/
def State.primeStore (s : State) (t : TribId) : State :=
  if (s.trib t).storeState = .idle then s.setStoreState t .prime (s.trib t).repeatRun else s

/-- Entry to ALIGNED: the receiver's fields, the first cell request, and readout's change to PRIME
(R11, R33, R46). -/
def State.takeEntry (s : State) (t : TribId) (bit : Bool) : State :=
  ((s.modRx t fun x => x.enterAligned bit).cellRequest t).primeStore t

/-- VERIFY_CHECK's effect (R10, R11). -/
def State.takeVerifyCheck (s : State) (t : TribId) (bit : Bool) : State :=
  let x := (s.trib t).rx
  if x.verifyGood bit then
    match x.verifyStep with
    | .first => s.modRx t fun x => x.toSecond bit
    | .second => s.takeEntry t bit
  else s.modRx t fun x => x.backToSearch bit

/-- A bit of the sync octet before position 7 (R12). -/
def State.takeSyncBit (s : State) (t : TribId) (bit : Bool) : State :=
  s.modRx t fun x => x.syncBit bit

/-- Loss of alignment with its reports (R14, R17, R37). -/
def State.loseAlignment (s : State) (t : TribId) : State :=
  (((s.modRx t Receiver.loseAlignment).releaseFilling t).modRecord t Record.alignLoss).raise .alignLoss

/-- SYNC_OCTET_CHECK's effect (R13, R14). -/
def State.takeSyncCheck (s : State) (t : TribId) (bit : Bool) : State :=
  let s1 := s.modRx t fun x => x.syncCheck bit
  if (s1.trib t).rx.badRun = 4 then s1.loseAlignment t else s1

/-- A payload bit is written in its place in the filling cell (R12). -/
def State.writeBit (s : State) (t : TribId) (bit : Bool) : State :=
  s.modStore t fun x =>
    { x with filling := x.filling.map fun p => writePayload p (s.trib t).rx.bitPos.toNat bit }

/-- A payload bit before position 255 (R12). -/
def State.takePayloadBit (s : State) (t : TribId) (bit : Bool) : State :=
  (s.writeBit t bit).modRx t Receiver.payloadBit

/-- FRAME_COMPLETION's effect: the last payload bit is written, and the store completes the frame
(R15, R34). -/
def State.takeCompletion (s : State) (t : TribId) (bit : Bool) : State :=
  let s1 := s.takePayloadBit t bit
  s1.completeFrame t (s1.trib t).rx.mLatch

/-- The effect of an edge of a given occasion. -/
def State.takeEdge (s : State) (t : TribId) (bit : Bool) : EdgeKind → State
  | .ignored => s
  | .leaveDark => s.takeLeaveDark t bit
  | .search => s.takeSearchBit t bit
  | .candidate => s.takeCandidate t bit
  | .verify => s.takeVerifyBit t bit
  | .verifyCheck => s.takeVerifyCheck t bit
  | .sync => s.takeSyncBit t bit
  | .syncCheck => s.takeSyncCheck t bit
  | .payload => s.takePayloadBit t bit
  | .completion => s.takeCompletion t bit

/-- One rising edge of LCKt: it delivers exactly one bit, used according to the alignment state (R3). -/
def State.lineEdge (s : State) (t : TribId) (bit : Bool) : State := s.takeEdge t bit (s.edgeKind t bit)

/-! The meanings -/

/-- LEAVE_DARK (R7). An edge that finds another occasion is still an edge (R3;
notes/assumptions/6.md). -/
def execLeaveDark (t : TribId) (bit : Bool) (s : State) : Host.Outcome State Fault Refusal :=
  .next (if s.edgeKind t bit = .leaveDark then s.takeLeaveDark t bit else s.lineEdge t bit)

/-- CANDIDATE (R9). Otherwise as R3. -/
def execCandidate (t : TribId) (bit : Bool) (s : State) : Host.Outcome State Fault Refusal :=
  .next (if s.edgeKind t bit = .candidate then s.takeCandidate t bit else s.lineEdge t bit)

/-- VERIFY_CHECK (R10). Otherwise as R3. -/
def execVerifyCheck (t : TribId) (bit : Bool) (s : State) : Host.Outcome State Fault Refusal :=
  .next (if s.edgeKind t bit = .verifyCheck then s.takeVerifyCheck t bit else s.lineEdge t bit)

/-- SYNC_OCTET_CHECK (R13). Otherwise as R3. -/
def execSyncOctetCheck (t : TribId) (bit : Bool) (s : State) : Host.Outcome State Fault Refusal :=
  .next (if s.edgeKind t bit = .syncCheck then s.takeSyncCheck t bit else s.lineEdge t bit)

/-- FRAME_COMPLETION (R34). Otherwise as R3. -/
def execFrameCompletion (t : TribId) (bit : Bool) (s : State) : Host.Outcome State Fault Refusal :=
  .next (if s.edgeKind t bit = .completion then s.takeCompletion t bit else s.lineEdge t bit)

/-- LINE_CLOCK_EDGE (R3). -/
def execLineClockEdge (t : TribId) (bit : Bool) (s : State) : Host.Outcome State Fault Refusal :=
  .next (s.lineEdge t bit)

/-- The dark entry of a receiver, with its reports (R5, R17, R37). -/
def State.takeDarkEntry (s : State) (t : TribId) : State :=
  (((s.modRx t Receiver.darkEntry).releaseFilling t).modRecord t Record.darkEntry).raise .dark

/-- DARK_ENTRY (R5). A disabled receiver's timer does not run and a timer stopped in DARK does not
expire, so there the command has no occasion and changes nothing (R1, R4). -/
def execDarkEntry (t : TribId) (s : State) : Host.Outcome State Fault Refusal :=
  .next (if s.running && s.enabled t && (s.trib t).rx.align != .dark then s.takeDarkEntry t else s)

end Sys2Proof.Machine
end

