-- ==== Sys2Proof/Machine/Reference.lean ====
section
/-! DEFINITION. The reference monitors (chapter 06): accepted and missing edges, qualification, impairment,
loss, and the phase error that the selector offers. -/

namespace Sys2Proof.Machine

/-- The result of an interval check (R106). -/
inductive Interval where
  | absent
  | good
  | bad
  deriving DecidableEq, Repr

/-- The interval from the last edge tick to a new rising tick (R106). -/
def Monitor.interval (m : Monitor) (rise : Nat) : Interval :=
  match m.lastEdge with
  | none => .absent
  | some e => if 4092 ≤ (rise : Int) - (e : Int) ∧ (rise : Int) - (e : Int) ≤ 4100 then .good else .bad

/-- The qualification period Q (R109). -/
def Monitor.period (m : Monitor) : Nat := if m.flap then Config.qualifyFlap else Config.qualifyClear

/-- What an acceptance writes in every state: last edge tick, activity timer, filter disarmed (R104,
R106, R107). -/
def Monitor.accept (m : Monitor) (rise : Nat) : Monitor :=
  { m with lastEdge := some rise, activity := some Config.activityTicks, armed := false, highTicks := 8 }

/-- What a missing edge writes in every state (R107). -/
def Monitor.miss (m : Monitor) : Monitor :=
  { m with lastEdge := none, activity := some Config.activityTicks }

/-- Back to DOWN with the count 0 (R108). -/
def Monitor.toDown (m : Monitor) : Monitor := { m with state := .down, qualCount := 0 }

/-- A good interval in DOWN or QUALIFYING (R108, R109). -/
def Monitor.countGood (m : Monitor) : Monitor :=
  let n := m.qualCount + 1
  if m.period ≤ n then
    { m with state := .qualified, qualCount := m.period, impairRun := 0, qualRun := 0 }
  else { m with state := .qualifying, qualCount := n }

/-- A loss: DOWN, the counts 0 (R110). -/
def Monitor.lose (m : Monitor) : Monitor :=
  { m with state := .down, qualCount := 0, impairRun := 0, qualRun := 0 }

/-- The loss falls within the flap window of the loss before it (R111). -/
def Monitor.flaps (m : Monitor) (now : Stamp) : Bool :=
  match m.lastLoss with
  | none => false
  | some p => decide (stampDistance p now < (Config.flapFrames : Int))

/-- The flap check and the last-loss stamp (R111). -/
def Monitor.noteLoss (m : Monitor) (now : Stamp) : Monitor :=
  { m with flap := m.flap || m.flaps now, lastLoss := some now }

/-- Loss of reference r with its reports (R110, R111, R115). -/
def State.loseReference (s : State) (r : RefId) : State :=
  let m := s.monitor r
  let s1 := s.setMonitor r (m.lose.noteLoss s.stamp)
  let s2 := if m.flaps s.stamp then s1.raise .flap else s1
  if s.selector.selected = some r then s2.loseSelected r else s2

/-- An impairment of a qualified reference: the second in a row is a loss (R110). -/
def State.impair (s : State) (r : RefId) : State :=
  let m := s.monitor r
  if m.impairRun + 1 = 2 then s.loseReference r
  else s.setMonitor r { m with impairRun := m.impairRun + 1 }

/-- The offered phase error of a position against the build-out (R118). -/
def offeredError (position buildOut : Int) : Int :=
  clampTo Config.maxError (2 * shortWay (position - buildOut))

/-- The selector at an accepted edge of the selected reference (R117, R118). -/
def Selector.edge (x : Selector) (position : Int) (i : Interval) : Selector :=
  if x.buildPending then
    { x with
      buildOut := position
      buildPending := false
      offered := if i = .good then some 0 else none }
  else
    { x with offered := if i = .good then some (offeredError position x.buildOut) else none }

/-- The position of an edge that rose at crystal tick `rise` (R105). -/
def State.edgePosition (s : State) (rise : Nat) : Int :=
  Machine.edgePosition s.ftu.length ((rise : Int) - (s.ftu.frameStart : Int))

/-- The selector takes an accepted edge of reference r, if that is the one selected (R118). -/
def State.offerEdge (s : State) (r : RefId) (rise : Nat) (i : Interval) : State :=
  if s.selector.selected = some r then
    { s with selector := s.selector.edge (s.edgePosition rise) i }
  else s

/-- The selector is evaluated at a qualification; while the station is not joined that selects nothing
(R114). -/
def State.noteQualified (s : State) : State := if s.joined then s.evaluateSelector else s

/-- What the interval does in the monitor's state (R108 to R110). -/
def State.judgeInterval (s : State) (r : RefId) (i : Interval) : State :=
  let m := s.monitor r
  match m.state with
  | .absent => s
  | .down =>
    match i with
    | .good => s.setMonitor r { m with state := .qualifying, qualCount := 1 }
    | _ => s
  | .qualifying =>
    match i with
    | .good =>
      let m' := m.countGood
      let s1 := s.setMonitor r m'
      if m'.state = .qualified then s1.noteQualified else s1
    | .bad => s.setMonitor r m.toDown
    | .absent => s
  | .qualified =>
    match i with
    | .good => s.setMonitor r { m with impairRun := 0 }
    | .bad => s.impair r
    | .absent => s

/-- ACCEPTED_EDGE's effect (R104 to R106, R108 to R110, R117, R118). -/
def State.takeAcceptedEdge (s : State) (r : RefId) (rise : Nat) : State :=
  let i := (s.monitor r).interval rise
  let s1 := s.setMonitor r ((s.monitor r).accept rise)
  (s1.offerEdge r rise i).judgeInterval r i

/-- ACCEPTED_EDGE (R104). An ABSENT monitor takes no input (R102). -/
def execAcceptedEdge (r : RefId) (rise : Nat) (s : State) : Host.Outcome State Fault Refusal :=
  .next (if s.running && (s.monitor r).state != .absent then s.takeAcceptedEdge r rise else s)

/-- The selector at a missing edge of the selected reference (R118). -/
def State.offerNothing (s : State) (r : RefId) : State :=
  if s.selector.selected = some r then { s with selector := { s.selector with offered := none } } else s

/-- MISSING_EDGE's effect (R107, R108, R110, R118). -/
def State.takeMissingEdge (s : State) (r : RefId) : State :=
  let s1 := (s.setMonitor r (s.monitor r).miss).offerNothing r
  match (s.monitor r).state with
  | .absent => s1
  | .down => s1
  | .qualifying => s1.setMonitor r (s1.monitor r).toDown
  | .qualified => s1.impair r

/-- MISSING_EDGE (R107). An ABSENT monitor's timer does not run (R102). -/
def execMissingEdge (r : RefId) (s : State) : Host.Outcome State Fault Refusal :=
  .next (if s.running && (s.monitor r).state != .absent then s.takeMissingEdge r else s)

/-- A monitor at an office boundary: the qualified run, and the flap mark it sheds (R112). -/
def Monitor.boundary (m : Monitor) : Monitor :=
  if m.state = .qualified then
    let n := satSucc Config.flapFrames m.qualRun
    { m with qualRun := n, flap := m.flap && decide (n ≠ Config.flapFrames) }
  else m

/-- The monitors' work at a boundary (R112). -/
def State.monitorsBoundary (s : State) : State :=
  { s with monA := s.monA.boundary, monB := s.monB.boundary }

end Sys2Proof.Machine
end

