-- ==== Sys2Proof/Machine/Stream.lean ====
section
/-! DEFINITION. The output lines of an office frame (R58 to R60, R167), and the maintenance stream and
alarm acknowledgement (chapter 10). -/

namespace Sys2Proof.Machine

/-! The output lines -/

/-- The ticks of a join frame after its 4096 carry no bits (R59). -/
def State.inGap (s : State) (tick : Nat) : Bool :=
  decide (s.listen.phase = .joinFrame) && decide (4096 ≤ tick)

/-- The office bit of a tick: bit 255 is the last (R58). -/
def officeBitOf (tick : Nat) : Nat := if tick / 16 < 255 then tick / 16 else 255

/-- ODAt at a tick (R58, R59). -/
def State.odaAt (s : State) (t : TribId) (tick : Nat) : Bool :=
  s.inGap tick || frameBit (s.trib t).outFrame (officeBitOf tick)

/-- OCK at a tick: low for the first eight ticks of an office bit, low in the gap of a join frame
(R58, R59). -/
def State.ockAt (s : State) (tick : Nat) : Bool :=
  !s.inGap tick && (decide (4096 ≤ tick) || decide (8 ≤ tick % 16))

/-- OFP at a tick: 128 ticks in an index-0 frame, else 16 (R60). -/
def State.ofpAt (s : State) (tick : Nat) : Bool :=
  decide (tick < (if s.ftu.officeIndex = 0 then 128 else 16))

/-- The stream bit of a tick (R167). -/
def streamBitOf (tick : Nat) : Nat := officeBitOf tick / 16

/-- MSC at a tick: it falls at office bit 16j and rises at office bit 16j + 8, and stays high past tick
4096 (R167). -/
def mscAt (tick : Nat) : Bool := decide (8 ≤ officeBitOf tick % 16)

/-- MSO at a tick: octet 2p in stream bits 0 to 7, octet 2p + 1 in 8 to 15 (R167). -/
def State.msoAt (s : State) (tick : Nat) : Bool :=
  let j := streamBitOf tick
  if j < 8 then s.maint.octetHi.getLsbD (7 - j) else s.maint.octetLo.getLsbD (15 - j)

/-- MSF at a tick: stream bit 0 of a frame whose page counter is 0 (R167). -/
def State.msfAt (s : State) (tick : Nat) : Bool :=
  decide (s.maint.pageCounter = 0) && decide (streamBitOf tick = 0)

/-- The output lines take their levels of a tick of the office frame. -/
def State.driveOutputs (s : State) (tick : Nat) : State :=
  { s with out :=
    { oda := Vector.ofFn fun t => s.odaAt t tick
      ock := s.ockAt tick
      ofp := s.ofpAt tick
      msc := mscAt tick
      mso := s.msoAt tick
      msf := s.msfAt tick } }

/-- The tick at which office bit k begins, or is eight ticks old (R58). -/
def officeBitTick (k : Nat) (half : Bool) : Nat := 16 * k + (if half then 8 else 0)

/-- OFFICE_BIT (R58). -/
def execOfficeBit (k : Nat) (half : Bool) (s : State) : Host.Outcome State Fault Refusal :=
  .next (whenRunning (fun s => s.driveOutputs (officeBitTick k half)) s)

/-! The page (R170) -/

/-- Code of the mode in the mode octet. -/
def Mode.code : Mode → BitVec 2
  | .listen => 0
  | .track => 1
  | .anchor => 2
  | .hold => 3

/-- Code of a monitor state in the header. -/
def MonitorState.code : MonitorState → BitVec 2
  | .absent => 0
  | .down => 1
  | .qualifying => 2
  | .qualified => 3

/-- Code of an alignment state in the status octet. -/
def AlignState.code : AlignState → BitVec 2
  | .dark => 0
  | .search => 1
  | .verify => 2
  | .aligned => 3

/-- Code of a store state in the status octet. -/
def StoreState.code : StoreState → BitVec 2
  | .idle => 0
  | .prime => 1
  | .normal => 2
  | .refill => 3

/-- Code of a slip kind in the rotating detail. -/
def SlipKind.code : SlipKind → Octet
  | .repeated => 1
  | .delete => 2
  | .own => 3
  | .evicted => 4

/-- Code of the selected reference in the header. -/
def selectedCode : Option RefId → Octet
  | none => 0
  | some .refA => 1
  | some .refB => 2

/-- Code of the window width in the header. -/
def WindowWidth.code : WindowWidth → BitVec 2
  | .listen => 0
  | .narrow => 1
  | .wide => 2

/-- Code of the gain set in the header. -/
def GainSet.code : GainSet → BitVec 1
  | .acquire => 0
  | .track => 1

/-- A number as one octet. -/
def octet (n : Nat) : Octet := BitVec.ofNat 8 n

/-- A signed number as two octets in two's complement. -/
def signed16 (x : Int) : List Octet := octets16 (BitVec.ofInt 16 x)

/-- The mode octet (R170, octet 2). -/
def State.modeOctet (s : State) : Octet :=
  s.modes.mode.code ++ s.ftu.officeIndex ++ BitVec.ofBool s.rail.drivingLead ++
    BitVec.ofBool s.listen.withdrawn ++ 0#1

/-- The octet of a monitor (R170, octets 7 and 8). -/
def Monitor.octet (m : Monitor) : Octet := 0#5 ++ BitVec.ofBool m.flap ++ m.state.code

/-- The 32 octets of the header (R170). -/
def State.headerOctets (s : State) : List Octet :=
  [s.maint.pageSeq, octet s.straps.stn.val, s.modeOctet, octet (s.modes.grade.getD 0),
    octet s.rail.bestGrade, 0#5 ++ s.rail.width.code ++ s.ftu.gain.code,
    selectedCode s.selector.selected, s.monA.octet, s.monB.octet] ++
  signed16 s.ftu.integral ++ signed16 ((s.ftu.history + 128) / 256) ++
  signed16 (s.ftu.lastError.getD (-32768)) ++ signed16 s.selector.buildOut ++
  octets16 (BitVec.ofInt 16 s.rail.leadSpread) ++ octets24 (BitVec.ofNat 24 s.ftu.holdAge) ++
  octets32 s.ftu.seconds ++ [octet s.free, octet s.sharedInUse] ++
  octets16 s.flags.snapshotBits ++ octets16 s.counters.refSwitches

/-- The status octet of a tributary (R170). -/
def State.statusOctet (s : State) (t : TribId) : Octet :=
  BitVec.ofBool (s.enabled t) ++ BitVec.ofNat 2 (s.classOf t).val ++ 0#1 ++
    (s.trib t).rx.align.code ++ (s.trib t).storeState.code

/-- The field of a tributary summary that begins at an offset (R170). -/
def State.summaryField (s : State) (t : TribId) (offset : Nat) : List Octet :=
  let r := (s.trib t).record
  match offset with
  | 0 => [s.statusOctet t]
  | 1 => [octet (s.trib t).store.queue.length]
  | 2 => [octet r.low]
  | 3 => [octet r.high]
  | 4 => octets16 r.repeatEvents
  | 6 => octets16 r.deleteEvents
  | 8 => octets16 r.squeezes
  | 10 => octets16 r.repeatedFrames
  | _ => []

/-- A first-slip or last-slip field: all 0 when absent (R170). -/
def slipOctets : Option SlipMark → List Octet
  | none => [0, 0, 0, 0, 0, 0, 0]
  | some m => m.kind.code :: (octets32 m.stamp.seconds ++ octets16 (BitVec.ofNat 16 m.stamp.frame))

/-- The last-slip detail: all 0 when absent (R170). -/
def detailOctets : Option SlipDetail → List Octet
  | none => [0, 0, 0, 0]
  | some d => [d.kind.code, octet d.frames, octet d.queueBefore, octet d.sharedBefore]

/-- The station counter octet: hold entries, relabels or lead-lost entries by sequence mod 3 (R170). -/
def State.stationCounterOctet (s : State) : Octet :=
  match s.maint.pageSeq.toNat % 3 with
  | 0 => s.counters.holdEntries.setWidth 8
  | 1 => s.counters.relabels.setWidth 8
  | _ => s.counters.leadLost.setWidth 8

/-- The tributary of the page's rotating detail: sequence mod 16 (R168). -/
def State.detailTrib (s : State) : TribId := (s.maint.pageSeq.setWidth 4).toFin

/-- The field of the rotating detail that begins at an octet of the page (R170). -/
def State.detailField (s : State) (n : Nat) : List Octet :=
  let t := s.detailTrib
  let r := (s.trib t).record
  match n with
  | 224 => [octet t.val]
  | 225 => slipOctets r.firstSlip
  | 232 => slipOctets r.lastSlip
  | 239 => detailOctets r.detail
  | 243 => octets16 r.deletedFrames
  | 245 => octets16 r.alignLosses
  | 247 => octets16 r.darkEntries
  | 249 => octets16 r.evictionsCaused
  | 251 => [octet (s.holdings t)]
  | 252 => [octet r.currentRun]
  | 253 => [(s.trib t).rx.lastSync]
  | 254 => [s.stationCounterOctet]
  | 255 => [0xA5]
  | _ => []

/-- The field, after the header, that begins at octet n of the page (R168, R170). -/
def State.fieldAt (s : State) (n : Nat) : List Octet :=
  if n < 224 then s.summaryField (Fin.ofNat 16 ((n - 32) / 12)) ((n - 32) % 12) else s.detailField n

/-- Octet n of the page with the octets of its field that remain to be sent. A header octet comes from
the snapshot of the page start: R120, R134 and R153 say of single header fields that each is read when it is
sent, and the model follows R169, by which nothing later changes the header (DEDUCED, notes/assumptions/40.md).
Another octet begins a field, which is read whole, or comes from the field read when its first octet was sent (R169). -/
def State.pageOctet (s : State) (n : Nat) (carry : List Octet) : Octet × List Octet :=
  if n < 32 then (s.maint.header.getD n 0, [])
  else match s.fieldAt n with
    | [] => (carry.headD 0, carry.drop 1)
    | o :: rest => (o, rest)

/-- The two octets of the frame whose page counter stands (R167, R169). -/
def State.loadOctets (s : State) : State :=
  let n := 2 * s.maint.pageCounter.toNat
  let hi := s.pageOctet n s.maint.carry
  let lo := s.pageOctet (n + 1) hi.2
  { s with maint := { s.maint with octetHi := hi.1, octetLo := lo.1, carry := lo.2 } }

/-- The flag snapshots of a page start (R172). -/
def State.snapshotFlags (s : State) : State := { s with flags := s.flags.each Flag.snapshot }

/-- The header snapshot of a page start: every field as it stands there (R169). That this holds also of the
reference fields, of mode and grade, and of best grade, driving LEAD, window width with gain set and LEAD spread, of
which R120, R134 and R153 say that each is read when its field is sent, is read by inference (DEDUCED,
notes/assumptions/40.md). -/
def State.snapshotHeader (s : State) : State :=
  { s with maint := { s.maint with header := s.headerOctets, carry := [] } }

/-- A page start: flag snapshots, then the header with them (R168, R169, R172). -/
def State.pageStart (s : State) : State := s.snapshotFlags.snapshotHeader

/-- The page counter and, at a page start, the page sequence advance (R168). -/
def State.advancePage (s : State) : State :=
  { s with maint := { s.maint with
      pageCounter := s.maint.pageCounter + 1
      pageSeq := if s.maint.pageCounter + 1 = 0 then s.maint.pageSeq + 1 else s.maint.pageSeq } }

/-- The maintenance block at a boundary (R168, R169). -/
def State.pageBoundary (s : State) : State :=
  let s1 := s.advancePage
  if s1.maint.pageCounter = 0 then s1.pageStart.loadOctets else s1.loadOctets

/-! Acknowledgement (R173) -/

/-- ACKNOWLEDGEMENT's effect: flags shown and not raised since are cleared, and the filter is disarmed
until MAK reads low (R173). -/
def State.takeAcknowledgement (s : State) : State :=
  { s with
    flags := s.flags.each Flag.acknowledge
    maint := { s.maint with makArmed := false, makHigh := 8 } }

/-- ACKNOWLEDGEMENT (R173). -/
def execAcknowledgement (s : State) : Host.Outcome State Fault Refusal :=
  .next (whenRunning State.takeAcknowledgement s)

end Sys2Proof.Machine
end

