-- ==== Sys2Proof/Machine/Office.lean ====
section
/-! DEFINITION. The office boundary (R80), and the assertion and release of RSTn (R155, R156): the three
events in which every block takes part. Where the spec leaves open the order of two blocks at a
boundary, an opaque Boolean of Config decides (notes/assumptions/14.md, 15.md, 17.md). -/

namespace Sys2Proof.Machine

/-- Do f when the flag is set. -/
def applyWhen (b : Bool) (f : State → State) (s : State) : State := if b then f s else s

/-- The FTU's boundary with the mode as it stands (R80, R85, R86, R93 to R95). -/
def State.ftuBoundary (s : State) : State := { s with ftu := s.ftu.boundary s.modes.mode }

/-- Selector, mode machine, LISTEN procedure and rail at a boundary; `early` says that a withdrawal has
already been taken (R161, R163, R164, R137, R158). -/
def State.stationBoundary (s : State) (ej begins early : Bool) : State :=
  ((if early then s else s.passage ej begins) : State).railBoundary begins

/-- The blocks that follow the FTU at a boundary, each before or after the maintenance block (R169). -/
def State.blocksAtBoundary (s : State) (n : Nat) (ej begins early : Bool) : State :=
  let readoutFirst := Config.readoutBeforePage n
  let stationFirst := Config.stationBeforePage n
  let monitorsFirst := Config.monitorsBeforePage n
  let station := fun s : State => s.stationBoundary ej begins early
  let s1 := applyWhen monitorsFirst State.monitorsBoundary s
  let s2 := applyWhen stationFirst station s1
  let s3 := applyWhen readoutFirst State.readoutBoundary s2
  let s4 := s3.pageBoundary
  let s5 := applyWhen (!monitorsFirst) State.monitorsBoundary s4
  let s6 := applyWhen (!stationFirst) station s5
  applyWhen (!readoutFirst) State.readoutBoundary s6

/-- OFFICE_BOUNDARY's effect (R80, R47, R85 to R95, R98, R112, R137, R161, R163, R164, R168). -/
def State.takeBoundary (s : State) (ej : Bool) : State :=
  let n := s.choiceSeq
  let begins := s.ftu.joinRequest.isSome
  let early := s.listen.withdrawRequest && Config.withdrawBeforeFtu n
  let s1 := s.closeListenWindow
  let s2 := applyWhen early State.takeWithdrawal s1
  let s3 := (s2.ftuBoundary).blocksAtBoundary n ej begins early
  { s3.driveOutputs 0 with railDue := true, choiceSeq := n + 1 }

/-- OFFICE_BOUNDARY (R80). -/
def execOfficeBoundary (ej : Bool) (s : State) : Host.Outcome State Fault Refusal :=
  .next (whenRunning (fun s => s.takeBoundary ej) s)

/-! Reset -/

/-- Every block at the assertion of RSTn; the sampled straps hold until the next release (R154), the
crystal goes on, and the levels at the pins are the outside's. -/
def State.resetBlocks (s : State) : State :=
  { State.reset with
    pins := { s.pins with rstn := false }
    straps := s.straps
    ftu := { Ftu.reset with crystal := s.ftu.crystal }
    pending := s.pending
    inputs := s.inputs
    choiceSeq := s.choiceSeq }

/-- RESET_ASSERTION (R155; R2, R24, R45, R61, R66, R79, R81, R103, R113, R121, R136, R157, R167, R168,
R171). -/
def execResetAssertion (s : State) : Host.Outcome State Fault Refusal := .next s.resetBlocks

/-- A monitor at the release: ABSENT, or DOWN with its activity timer loaded (R102, R103). -/
def Monitor.release (m : Monitor) (cls : Option RefClass) : Monitor :=
  match cls with
  | none => { m with state := .absent }
  | some _ => { m with state := .down, activity := some Config.activityTicks }

/-- The straps are sampled, and the blocks that use them take them (R154, R102, R157, R173). EJ's level here is
not a sample in the sense of R163, nor is MAK sampled (notes/assumptions/39.md). -/
def State.sampleStraps (s : State) (p : Straps) (ej : Bool) : State :=
  { s with
    pins := { s.pins with rstn := true, ej := ej, straps := p }
    straps := p
    monA := s.monA.release (p.refClass .refA)
    monB := s.monB.release (p.refClass .refB)
    listen := { s.listen with withdrawn := ej, ejSampled := false }
    maint := { s.maint with makArmed := false, makHigh := 0 } }

/-- The FTU takes the first boundary: 4096 ticks, and no counter advances (R81). -/
def Ftu.release (f : Ftu) : Ftu := { f with tick := 0, frameStart := f.crystal, length := 4096 }

/-- RESTART is raised and the first page starts, in either order (R168, R171). -/
def State.firstPage (s : State) (restartFirst : Bool) : State :=
  if restartFirst then (s.raise .restart).pageStart.loadOctets
  else s.pageStart.loadOctets.raise .restart

/-- RESET_RELEASE's effect: straps, the first office boundary, RESTART (R156; R45, R61, R81, R158,
R168, R171). That the header of page 0 is taken after the straps and the level of EJ is the model's choice
(notes/assumptions/42.md). -/
def State.takeRelease (s : State) (p : Straps) (ej : Bool) : State :=
  let n := s.choiceSeq
  let s1 := s.sampleStraps p ej
  let s2 := ({ s1 with ftu := s1.ftu.release } : State).openListenWindow false
  let s3 := (s2.readoutBoundary).firstPage (Config.restartBeforePage n)
  { s3.driveOutputs 0 with railDue := true, choiceSeq := n + 1 }

/-- RESET_RELEASE (R156): a release follows an assertion, so at a station out of reset the command has
no occasion and changes nothing. -/
def execResetRelease (p : Straps) (ej : Bool) (s : State) : Host.Outcome State Fault Refusal :=
  .next (if s.running then s else s.takeRelease p ej)

end Sys2Proof.Machine
end

