-- ==== Sys2Proof/Machine/Dispatch.lean ====
section
/-! DEFINITION. One arm per command: the rows of spec/opcode_table.json. -/

namespace Sys2Proof.Machine

def exec (i : Instr) (s : State) : Host.Outcome State Fault Refusal :=
  match i with
  | .resetAssertion => Sys2Proof.Machine.execResetAssertion s
  | .resetRelease p ej => Sys2Proof.Machine.execResetRelease p ej s
  | .leaveDark t b => Sys2Proof.Machine.execLeaveDark t b s
  | .darkEntry t => Sys2Proof.Machine.execDarkEntry t s
  | .candidate t b => Sys2Proof.Machine.execCandidate t b s
  | .verifyCheck t b => Sys2Proof.Machine.execVerifyCheck t b s
  | .syncOctetCheck t b => Sys2Proof.Machine.execSyncOctetCheck t b s
  | .frameCompletion t b => Sys2Proof.Machine.execFrameCompletion t b s
  | .officeBoundary ej => Sys2Proof.Machine.execOfficeBoundary ej s
  | .measurementClose => Sys2Proof.Machine.execMeasurementClose s
  | .acceptedEdge r n => Sys2Proof.Machine.execAcceptedEdge r n s
  | .missingEdge r => Sys2Proof.Machine.execMissingEdge r s
  | .gradeStart => Sys2Proof.Machine.execGradeStart s
  | .pulseEnd l => Sys2Proof.Machine.execPulseEnd l s
  | .ejRisingEdge => Sys2Proof.Machine.execEjRisingEdge s
  | .acknowledgement => Sys2Proof.Machine.execAcknowledgement s
  | .lineClockEdge t b => Sys2Proof.Machine.execLineClockEdge t b s
  | .railLineCapture l c n => Sys2Proof.Machine.execRailLineCapture l c n s
  | .officeBit k h => Sys2Proof.Machine.execOfficeBit k h s

end Sys2Proof.Machine
end

