-- ==== Sys2Proof/Machine/Tick.lean ====
section
/-! DEFINITION. One tick of the crystal: what a step does on an empty queue (notes/assumptions/2.md). The tick
count and the timers advance, the input pins are sampled, the rail lines are read, and the station's own
events that fall at the tick go onto the queue, in an order that an opaque choice of Config arranges
wherever the spec gives none (notes/assumptions/3.md). -/

namespace Sys2Proof.Machine

/-! Timers and filters -/

/-- The dark timer counts down one per tick; a stopped one does not (R4). -/
def Receiver.tick (x : Receiver) : Receiver := { x with darkTimer := x.darkTimer.map (· - 1) }

/-- The filter of a reference input at one sample (R104). -/
def Monitor.sample (m : Monitor) (high : Bool) : Monitor :=
  if high then (if m.armed then { m with highTicks := m.highTicks + 1 } else m)
  else { m with armed := true, highTicks := 0 }

/-- A monitor that is not ABSENT at one tick (R102, R104, R107). -/
def Monitor.tick (m : Monitor) (high : Bool) : Monitor :=
  if m.state = .absent then m
  else { m.sample high with activity := m.activity.map (· - 1) }

/-- The eighth high tick has come: the pulse is accepted (R104). -/
def Monitor.accepts (m : Monitor) : Bool :=
  m.state != .absent && m.armed && decide (m.highTicks = 8)

/-- The activity timer has reached 0 (R107). -/
def Monitor.expires (m : Monitor) : Bool := m.state != .absent && decide (m.activity = some 0)

/-- The MAK filter at one sample (R173). -/
def Maint.sampleMak (m : Maint) (high : Bool) : Maint :=
  if high then (if m.makArmed then { m with makHigh := m.makHigh + 1 } else m)
  else { m with makArmed := true, makHigh := 0 }

/-- The eighth high tick of MAK has come (R173). -/
def Maint.acknowledges (m : Maint) : Bool := m.makArmed && decide (m.makHigh = 8)

/-- The tick counts advance, the timers count down and the pins are sampled. -/
def State.advance (s : State) (p : InPins) : State :=
  let s1 := s.eachTrib fun t x => if s.enabled t then { x with rx := x.rx.tick } else x
  { s1 with
    pins := { p with rstn := s.pins.rstn }
    ftu := { s.ftu with crystal := s.ftu.crystal + 1, tick := s.ftu.tick + 1 }
    monA := s.monA.tick p.refA
    monB := s.monB.tick p.refB
    maint := s.maint.sampleMak p.mak
    listen := { s.listen with ejSampled := true }
    choiceSeq := s.choiceSeq + 1 }

/-! The events of a tick -/

/-- The command that names an edge by its occasion (R3). -/
def edgeCommand (t : TribId) (bit : Bool) : EdgeKind → Instr
  | .leaveDark => .leaveDark t bit
  | .candidate => .candidate t bit
  | .verifyCheck => .verifyCheck t bit
  | .syncCheck => .syncOctetCheck t bit
  | .completion => .frameCompletion t bit
  | .ignored => .lineClockEdge t bit
  | .search => .lineClockEdge t bit
  | .verify => .lineClockEdge t bit
  | .sync => .lineClockEdge t bit
  | .payload => .lineClockEdge t bit

/-- The bits that the edges of tributary t deliver at this tick. -/
def TickInput.bitsOf (i : TickInput) (t : TribId) : List Bool :=
  (i.edges.filter fun e => e.1 = t).map Prod.snd

/-- Dark timer expiry and edges of one tributary: where both fall at the tick, either is taken first, and
an edge taken first reloads the timer (R6). -/
def State.tribSlot (s : State) (n : Nat) (i : TickInput) (t : TribId) : List Instr :=
  let bits := i.bitsOf t
  let expired := (s.trib t).rx.darkTimer == some 0
  if expired && (bits.isEmpty || !Config.edgeBeforeExpiry n t.val) then
    .darkEntry t :: bits.map (fun b => .leaveDark t b)
  else bits.map fun b => edgeCommand t b (s.edgeKind t b)

/-- Acceptance and activity timer expiry of one monitor: where both fall at the tick, either is taken
first, and an acceptance taken first reloads the timer (R119). -/
def State.refSlot (s : State) (n : Nat) (r : RefId) : List Instr :=
  let m := s.monitor r
  let accepted : List Instr := if m.accepts then [.acceptedEdge r (s.ftu.crystal - 7)] else []
  if m.expires && (!m.accepts || !Config.acceptBeforeMissing n (r == .refA)) then
    .missingEdge r :: accepted
  else accepted

/-- A rising edge of EJ: high at this sample, low at the one before. None is taken at the first sample after
the release, which is read as that of the tick after the release's own (R163; DESIGN CHOICE,
notes/assumptions/39.md). -/
def State.ejSlot (s : State) (ej : Bool) : List Instr :=
  if s.listen.ejSampled && !s.pins.ej && ej then [.ejRisingEdge] else []

/-- An acknowledgement (R173). -/
def State.makSlot (s : State) : List Instr := if s.maint.acknowledges then [.acknowledgement] else []

/-- An office bit, or the beginning of a join frame's gap (R58, R59). -/
def State.bitSlot (s : State) : List Instr :=
  let t := s.ftu.tick
  if t % 8 = 0 ∧ t < s.ftu.length ∧ (t < 4096 ∨ (t = 4096 ∧ s.listen.phase = .joinFrame)) then
    [.officeBit (t / 16) (decide (t % 16 = 8))]
  else []

/-- Pulses of this station that have reached their length (R137). -/
def State.endedPulses (s : State) : List Instr :=
  ([RailLine.beat, .grade, .lead].filter fun line =>
    match s.rail.pulses.get line with
    | none => false
    | some e => decide (e ≤ s.ftu.crystal)).map Instr.pulseEnd

/-! Reading the rail (R135, R141) -/

/-- The level of a line is read at this tick, within its window; a change since the tick before in the
window is a capture (R141). -/
def State.readLine (s : State) (line : RailLine) : State × List Instr :=
  match s.linePosition line s.ftu.tick with
  | none => (s, [])
  | some _ =>
    let low := s.lineLow line
    let c := s.rail.caps.get line
    let s1 := s.setCaps (s.rail.caps.put line { c with low := some low, sawLow := c.sawLow || low })
    match c.low with
    | none => (s1, [])
    | some before =>
      if before = low then (s1, [])
      else (s1, [.railLineCapture line (if low then .fall else .rise) s.ftu.tick])

/-- BEAT is read; its first fall in the window, or the own boundary that stands for it, is the grade
start (R139). -/
def State.readBeat (s : State) : State × List Instr :=
  let r := s.readLine .beat
  let starts := s.rail.caps.gradeStart.isNone &&
    (s.rail.caps.beat.firstFall.isSome || r.2 == [.railLineCapture .beat .fall s.ftu.tick])
  (r.1, if starts then r.2 ++ [.gradeStart] else r.2)

/-- All three lines are read (R135). -/
def State.readRail (s : State) : State × List Instr :=
  let b := s.readBeat
  let l := b.1.readLine .lead
  let g := l.1.readLine .grade
  (g.1, b.2 ++ l.2 ++ g.2)

/-! Order (notes/assumptions/3.md) -/

/-- Put x into l at place k. -/
def insertSlot (k : Nat) (x : List Instr) (l : List (List Instr)) : List (List Instr) :=
  let j := k % (l.length + 1)
  l.take j ++ x :: l.drop j

/-- The groups of events of a tick in an order that the opaque choice arranges; the events of one group
keep theirs. -/
def arrange (n : Nat) : List (List Instr) → List (List Instr)
  | [] => []
  | [] :: rest => arrange n rest
  | x :: rest =>
    match arrange n rest with
    | [] => [x]
    | y :: ys => insertSlot (Config.slotPlace n rest.length) x (y :: ys)

/-- The level of EJ that a boundary reads: where EJ falls at its tick, either level (R165). -/
def State.ejAtBoundary (s : State) (n : Nat) (ej : Bool) : Bool :=
  ej || (s.pins.ej && Config.boundaryBeforeEjFall n)

/-! The tick -/

/-- The groups of events that a tick finds besides its boundary, its close and the rail. -/
def State.tickSlots (s1 : State) (s : State) (n : Nat) (i : TickInput) : List (List Instr) :=
  allTribs.map (s1.tribSlot n i) ++
    [s1.refSlot n .refA, s1.refSlot n .refB, s.ejSlot i.pins.ej, s1.makSlot]

/-- A peer's fall of BEAT is read at the tick of the boundary and taken before it; a rise is not, since a
joined station pulls BEAT low from that tick (R135, R151). -/
def State.fallsEarly (s1 : State) (n : Nat) : Bool :=
  Config.railBeforeBoundary n && s1.readBeat.2.contains (.railLineCapture .beat .fall s1.ftu.tick)

/-- A tick at which the boundary falls: the rail is read once the boundary is taken, but for a fall of
BEAT that may be taken before it (R80, R151). A grade start at the own boundary is taken with the boundary,
before any other event of the tick that follows it, so that its pulse carries the driven grade (R124, R139);
where the boundary gives no grade start, GRADE_START changes nothing (notes/assumptions/5.md). -/
def State.tickBoundary (s1 : State) (n : Nat) (ej : Bool) (slots : List (List Instr)) : State :=
  let b := s1.readBeat
  let early := if s1.fallsEarly n then b.2 else []
  let apart := Config.fallApart n
  { (if s1.fallsEarly n then b.1 else s1) with pending :=
      s1.endedPulses ++ (if apart then early else []) ++
        (arrange n (slots ++
          [(if apart then [] else early) ++ [.officeBoundary ej, .gradeStart]])).flatten }

/-- Any other tick: the rail is read, and at tick 2047 the close follows what was read there (R80,
R82). -/
def State.tickWithin (s1 : State) (n : Nat) (slots : List (List Instr)) : State :=
  let r := s1.readRail
  let all := slots ++ [s1.bitSlot]
  { r.1 with pending :=
      if s1.ftu.tick = Config.closeTick then
        s1.endedPulses ++ r.2 ++ (arrange n (all ++ [[.measurementClose]])).flatten
      else s1.endedPulses ++ (arrange n (all ++ [r.2])).flatten }

/-- A tick of a station out of reset. -/
def State.tickRunning (s : State) (i : TickInput) : State :=
  let n := s.choiceSeq
  let s1 := s.advance i.pins
  let slots := s1.tickSlots s n i
  if s1.ftu.length ≤ s1.ftu.tick then s1.tickBoundary n (s.ejAtBoundary n i.pins.ej) slots
  else s1.tickWithin n slots

/-- The input of this tick: the next of the script, or the levels as they stand. -/
def State.nextInput (s : State) : TickInput :=
  match s.inputs with
  | [] => { pins := s.pins, edges := [] }
  | i :: _ => i

/-- The line-clock edges of the tick at which RSTn rises that come after the release: the spec gives no
order of an edge and the release, so for each tributary an opaque choice decides (R3, R156; notes/assumptions/38.md).
An edge before the release is no event (R155). -/
def releaseEdges (n : Nat) (i : TickInput) : List Instr :=
  allTribs.flatMap fun t =>
    if Config.edgesBeforeRelease n t.val then [] else (i.bitsOf t).map fun b => .leaveDark t b

/-- One tick of the crystal. While RSTn is asserted nothing but its release is seen (R155); an
assertion is taken at once. The release's own tick reads EJ and the straps; that REFA, REFB and MAK are first
sampled at the tick after it, and that EJ's first sample in the sense of R163 is the one after it, is the
model's choice (notes/assumptions/39.md). -/
def State.takeTick (s : State) : State :=
  let i := s.nextInput
  let s0 := { s with inputs := s.inputs.drop 1 }
  if s.running then
    if i.pins.rstn then s0.tickRunning i
    else { s0 with
      pins := { i.pins with rstn := true }
      ftu := { s.ftu with crystal := s.ftu.crystal + 1 }
      pending := [.resetAssertion] }
  else
    { s0 with
      pins := { i.pins with rstn := false }
      ftu := { s.ftu with crystal := s.ftu.crystal + 1 }
      pending :=
        if i.pins.rstn then
          .resetRelease i.pins.straps i.pins.ej :: releaseEdges s.choiceSeq i
        else [] }

/-- A step on an empty queue: the rail lines of a boundary's tick are still to be read, or the next tick
comes. -/
def State.idle (s : State) : State :=
  if s.railDue then
    let r := ({ s with railDue := false } : State).readRail
    { r.1 with pending := r.2 }
  else s.takeTick

end Sys2Proof.Machine
end

