-- ==== Sys2Proof/Safety.lean ====
section
/-! DEFINITION. What a good state is, in the terms that claims use: the laws that the spec says hold at every
moment. Each is a plain statement about one state; that every step keeps it is stated in
Certificates/Slice0/Obligations.lean. -/

namespace Sys2Proof.Machine

/-- A tributary with nothing received, stored or sent: its state while RSTn is asserted (R2, R24, R45). -/
def Trib.Blank (x : Trib) : Prop :=
  x.rx.align = .dark ∧ x.store = Store.reset ∧ x.storeState = .idle ∧ x.repeatRun = 0

/-- How receiver, store and readout of one tributary fit together. -/
structure Trib.Coherent (x : Trib) (enabled : Bool) (depth : Nat) : Prop where
  /-- A tributary holds a filling cell exactly while ALIGNED (R12). -/
  filling : x.store.filling.isSome = true ↔ x.rx.align = .aligned
  /-- NORMAL and REFILL have a transmitting cell, IDLE and PRIME none (R44). -/
  transmitting : x.store.transmitting.isSome = true ↔ x.storeState = .normal ∨ x.storeState = .refill
  /-- The queue never holds more than DEP frames (R25). -/
  queue : x.store.queue.length ≤ depth
  /-- An IDLE store has an empty queue, and its receiver is not ALIGNED (R44). -/
  idle : x.storeState = .idle → x.store.queue = [] ∧ x.rx.align ≠ .aligned
  /-- The repeat-run length is 0 in every state but REFILL, and at most 255 (R44). -/
  run : x.repeatRun ≤ 255 ∧ (x.storeState ≠ .refill → x.repeatRun = 0)
  /-- A disabled receiver stays in DARK and its store IDLE (R1, R44). -/
  disabled : enabled = false → x.rx.align = .dark ∧ x.storeState = .idle

/-- The laws of the pool (R1, R12, R22, R23, R24, R25, R44). -/
structure State.PoolLaw (s : State) : Prop where
  tribs : ∀ t, (s.trib t).Coherent (s.enabled t) s.depth
  /-- The free count plus all holdings is 96 (R22). -/
  cells : s.free + s.held = Config.poolCells
  /-- The free count is never below U (R23). -/
  reserve : s.unmet ≤ s.free
  /-- While RSTn is asserted nothing is held (R24). -/
  reset : s.running = false → ∀ t, (s.trib t).Blank

/-- x lies within ±n. -/
def Within (n x : Int) : Prop := -n ≤ x ∧ x ≤ n

/-- The ranges of the FTU's words and counts (R81, R82, R84, R85, R87, R90, R94, R95, R96). -/
structure Ftu.Ranges (f : Ftu) : Prop where
  integral : Within Config.maxIntegral f.integral
  frequency : Within Config.maxFrequency f.frequency
  history : Within Config.maxHistory f.history
  fraction : 0 ≤ f.fraction ∧ f.fraction < 65536
  lastError : ∀ e, f.lastError = some e → Within Config.maxError e
  frame : f.frameInSecond < Config.framesPerSecond
  holdAge : f.holdAge ≤ Config.maxHoldAge
  settle : f.settleRun < 64
  excursion : f.excursionRun < 16
  range : f.rangeRun < 8000

/-- How mode machine, selector and LISTEN procedure fit together. -/
structure State.ModeLaw (s : State) : Prop where
  /-- The station is in ANCHOR exactly when a reference is selected (R126). -/
  anchor : s.modes.mode = .anchor ↔ s.selector.selected.isSome = true
  /-- The selected reference is always QUALIFIED (R114). -/
  qualified : ∀ r, s.selector.selected = some r → (s.monitor r).state = .qualified
  /-- The grade is none in LISTEN (R122). -/
  listening : s.modes.mode = .listen → s.modes.grade = none
  /-- While the station is joined its grade is between 1 and 7 (R122). -/
  grade : s.modes.mode ≠ .listen → ∃ g, s.modes.grade = some g ∧ 1 ≤ g ∧ g ≤ 7
  /-- Only a listening station has a join pending or a join frame in progress (R157, R159). -/
  phase : s.listen.phase ≠ .running → s.modes.mode = .listen
  /-- A join request is pending only in phase JOIN PENDING (R159, R163). -/
  request : s.ftu.joinRequest.isSome = true → s.listen.phase = .joinPending
  /-- A withdrawn station is in LISTEN (R163) with the procedure's phase RUNNING: where a join frame ends in
  withdrawal R163 names no phase, and this one is read by inference (DEDUCED, notes/assumptions/19.md). -/
  withdrawn : s.listen.withdrawn = true → s.modes.mode = .listen ∧ s.listen.phase = .running
  /-- A withdrawal request leaves no join pending (R159, R163). -/
  noJoin : s.listen.withdrawRequest = true → s.listen.phase ≠ .joinPending
  /-- A station that is not joined drives no LEAD and holds no driven grade (R124, R138). -/
  drive : s.modes.mode = .listen → s.rail.drivingLead = false ∧ s.rail.drivenGrade = none
  /-- While RSTn is asserted the station is in LISTEN with nothing pending (R121, R157). -/
  reset : s.running = false → s.modes.mode = .listen ∧ s.listen.phase = .running ∧
    s.listen.withdrawn = false ∧ s.listen.withdrawRequest = false

/-- The ranges of the rail interface's fields (R136, R142, R143, R144, R147, R149, R150). -/
structure Rail.Ranges (r : Rail) : Prop where
  bestGrade : r.bestGrade ≤ 7
  railError : ∀ e, r.railError = some e → Within Config.maxError e
  leadAbsent : r.leadAbsentRun < 64
  marks : ∀ k ∈ r.markSet, 1 ≤ k ∧ k ≤ 7
  markCand : ∀ k, r.markCand = some k → 1 ≤ k ∧ k ≤ 7
  markRun : r.markRun ≤ 4
  backoff : r.backoff ≤ 128
  stamps : r.relabelStamps.length ≤ 8

/-- A flag with its raised-since mark set has its value set: a raising sets both, and only a flag whose
mark is 0 is cleared (R171 to R173). -/
def Flags.RaisedAreSet (fs : Flags) : Prop := ∀ f, (fs.get f).x = true → (fs.get f).v = true

/-- The running low mark is never above the running high mark, nor the reported ones, and none is above
8 (R66, R75, R76). -/
def Record.MarksOrdered (r : Record) : Prop :=
  r.runLow ≤ r.runHigh ∧ r.low ≤ r.high ∧ r.runHigh ≤ 8 ∧ r.high ≤ 8

end Sys2Proof.Machine
end

