-- ==== Sys2Proof/Certificates/Slice0/Obligations.lean ====
section
/-! DEFINITION. The statements for the provers: one Prop each, listed in OBLIGATIONS.json. Chapters in the spec's
order. `next u` in a conclusion means that `exec` answers a next state: the command completes. A frame is
said by an equation u = { s with … } or s.setTrib t …: every field it does not name is as in s. -/

open Sys2Proof Sys2Proof.Machine

/-! The machine as a whole -/

/-- A step of a state with c at the front of its queue is exec of c on the state with the queue's
rest. -/
def Obligations.StepRunsFront : Prop :=
  ∀ (s : State) (c : Instr) (rest : List Instr),
    step { s with pending := c :: rest } = exec c { s with pending := rest }

/-- No step stops: the spec gives every event an effect and names no fault. No command changes the queue
or the inputs of the ticks to come. -/
def Obligations.StepAlwaysNext : Prop :=
  (∀ s : State, ∃ u, step s = .next u) ∧
  ∀ (c : Instr) (s : State), ∃ u, exec c s = .next u ∧ u.pending = s.pending ∧ u.inputs = s.inputs

/-- The laws that every step keeps, stated one by one below, hold right after reset. -/
def Obligations.LawsAtReset : Prop :=
  State.reset.PoolLaw ∧ (∀ t, (State.reset.trib t).record.MarksOrdered) ∧ State.reset.ftu.Ranges ∧
  State.reset.ModeLaw ∧ State.reset.rail.Ranges ∧ State.reset.flags.RaisedAreSet

/-- What each kind of command leaves as it was: every field that the right-hand side does not name, and of
the other tributaries everything but what an eviction takes. A boundary is said the other way round, in three
steps: what every boundary leaves (R84, R89); what it leaves where neither a withdrawal nor the end of a join frame is
due at it; and the LISTEN procedure, where besides no station starts afresh and no join frame begins. -/
def Obligations.Frames : Prop :=
  (∀ (s u : State) (ej : Bool), exec (.officeBoundary ej) s = .next u →
    u = { u with
      pins := s.pins, straps := s.straps, counters := s.counters, pending := s.pending, inputs := s.inputs
      ftu := { u.ftu with
        crystal := s.ftu.crystal, integral := s.ftu.integral, history := s.ftu.history
        lastError := s.ftu.lastError, rangeRun := s.ftu.rangeRun }
      selector := { u.selector with buildOut := s.selector.buildOut }
      rail := { u.rail with
        bestGrade := s.rail.bestGrade, railError := s.rail.railError, leadSpread := s.rail.leadSpread
        backoff := s.rail.backoff, relabelStamps := s.rail.relabelStamps } } ∧
    (∀ t, (u.trib t).rx = (s.trib t).rx ∧ (u.trib t).store.filling = (s.trib t).store.filling) ∧
    (s.listen.withdrawRequest = false → s.listen.phase ≠ .joinFrame →
      u = { u with
        selector := s.selector, modes := s.modes
        ftu := { u.ftu with
          frequency := s.ftu.frequency, gain := s.ftu.gain, settleRun := s.ftu.settleRun
          excursionRun := s.ftu.excursionRun }
        rail := { u.rail with
          leadAbsentRun := s.rail.leadAbsentRun, markSet := s.rail.markSet, markCand := s.rail.markCand
          markRun := s.rail.markRun } } ∧
      (s.listen.withdrawn = false ∨ ej = true → s.ftu.joinRequest = none → u.listen = s.listen))) ∧
  (∀ s u : State, exec .measurementClose s = .next u →
    u = { s with counters := u.counters, ftu := u.ftu, selector := u.selector, modes := u.modes,
                 rail := u.rail, listen := u.listen, flags := u.flags, choiceSeq := u.choiceSeq }) ∧
  (∀ (s u : State) (r : RefId) (n : Nat),
    exec (.acceptedEdge r n) s = .next u ∨ exec (.missingEdge r) s = .next u →
    u = { s with counters := u.counters, ftu := u.ftu, monA := u.monA, monB := u.monB,
                 selector := u.selector, modes := u.modes, rail := u.rail, flags := u.flags } ∧
    u.monitor r.other = s.monitor r.other) ∧
  (∀ (s u : State) (t : TribId) (b : Bool),
    exec (.lineClockEdge t b) s = .next u ∨ exec (.darkEntry t) s = .next u →
    u = { s with tribs := u.tribs, free := u.free, flags := u.flags } ∧
    ∀ v, v ≠ t →
      u.trib v = { s.trib v with
        store := { (s.trib v).store with queue := (u.trib v).store.queue }
        record := (u.trib v).record } ∧
      ((u.trib v).store.queue = (s.trib v).store.queue ∨
        (u.trib v).store.queue = (s.trib v).store.queue.tail))

/-! Reset (R155, R156) -/

/-- R155: what the assertion of RSTn does to lines, join and LISTEN procedure, and that no block takes
any event while RSTn stays asserted. -/
def Obligations.ResetAssertionQuiets : Prop :=
  ∀ s : State, ∃ u, exec .resetAssertion s = .next u ∧
    u.running = false ∧
    (∀ line, u.ownLow line = false) ∧
    (∀ t : TribId, u.out.oda[t] = true) ∧ u.out.ock = false ∧ u.out.ofp = false ∧
    u.ftu.joinRequest = none ∧
    u.listen = { withdrawn := false, withdrawRequest := false, phase := .running, frameCount := 0,
                 runMidpoint := none, runCount := 0, silentRun := 0, latestMidpoint := none,
                 markIndex := none, markCount := 0, offset := none, ejSampled := false } ∧
    ∀ c : Instr, (∀ p ej, c ≠ .resetRelease p ej) → exec c u = .next u

/-- Every block's fields at the assertion of RSTn (R2, R24, R45, R66, R79, R81, R103, R113, R121, R136, R167,
R168, R171); the LISTEN procedure and the lines stand in ResetAssertionQuiets. -/
def Obligations.ResetAssertionClears : Prop :=
  ∀ s : State, ∃ u, exec .resetAssertion s = .next u ∧
    u.free = 96 ∧
    u.counters = { refSwitches := 0, holdEntries := 0, relabels := 0, leadLost := 0 } ∧
    (∀ t : TribId,
      (u.trib t).rx.align = .dark ∧ (u.trib t).rx.darkTimer = none ∧ (u.trib t).rx.window = [] ∧
      (u.trib t).rx.candIndex = 0 ∧ (u.trib t).rx.verifyStep = .first ∧
      (u.trib t).rx.countdown = 0 ∧ (u.trib t).rx.expected = 0 ∧ (u.trib t).rx.badRun = 0 ∧
      (u.trib t).rx.bitPos = 0 ∧ (u.trib t).rx.mLatch = false ∧ (u.trib t).rx.lastSync = 0 ∧
      (u.trib t).store = { filling := none, transmitting := none, queue := [] } ∧
      u.holdings t = 0 ∧
      (u.trib t).storeState = .idle ∧ (u.trib t).repeatRun = 0 ∧
      (u.trib t).record =
        { repeatEvents := 0, repeatedFrames := 0, deleteEvents := 0, deletedFrames := 0, squeezes := 0,
          evictionsCaused := 0, alignLosses := 0, darkEntries := 0, firstSlip := none, lastSlip := none,
          detail := none, openRepeat := false, currentRun := 0, runLow := 0, runHigh := 0, low := 0,
          high := 0 }) ∧
    u.ftu.integral = 0 ∧ u.ftu.frequency = 0 ∧ u.ftu.fraction = 0 ∧ u.ftu.history = 0 ∧
    u.ftu.gain = .acquire ∧ u.ftu.settleRun = 0 ∧ u.ftu.excursionRun = 0 ∧ u.ftu.rangeRun = 0 ∧
    u.ftu.lastError = none ∧ u.ftu.officeIndex = 0 ∧ u.ftu.frameInSecond = 0 ∧ u.ftu.seconds = 0 ∧
    u.ftu.holdAge = 0 ∧ u.ftu.indexRequest = none ∧
    (∀ r, u.monitor r =
      { state := .down, armed := true, highTicks := 0, lastEdge := none, activity := none,
        qualCount := 0, impairRun := 0, qualRun := 0, flap := false, lastLoss := none }) ∧
    u.selector = { selected := none, buildOut := 0, buildPending := false, offered := none } ∧
    u.modes = { mode := .listen, grade := none, offsetRun := 0 } ∧
    u.rail.drivenGrade = none ∧ u.rail.drivingLead = false ∧ u.rail.bestGrade = 0 ∧
    u.rail.railError = none ∧ u.rail.leadSpread = 0 ∧ u.rail.leadAbsentRun = 0 ∧
    u.rail.markSet = [] ∧ u.rail.markCand = none ∧ u.rail.markRun = 0 ∧ u.rail.backoff = 0 ∧
    u.rail.relabelStamps = [] ∧ u.rail.width = .listen ∧
    (∀ line, u.rail.pulses.get line = none ∧ (u.rail.caps.get line).firstFall = none ∧
      (u.rail.caps.get line).lastRise = none) ∧
    u.rail.caps.gradeStart = none ∧ u.rail.caps.pulseGrade = none ∧
    (∀ f, u.flags.get f = { v := false, s := false, x := false }) ∧
    u.maint.pageCounter = 0 ∧ u.maint.pageSeq = 0 ∧
    u.out.msc = false ∧ u.out.mso = false ∧ u.out.msf = false

/-- R156: each block at the release of RSTn. First, what RESET_RELEASE does to any station whose RSTn is asserted,
with the output lines of tick 0 (R58 to R60, R167). Second, the state of each block where the station before it is
as an assertion left it; the page start there and the raising of RESTART come in either order (R171). That the
release itself drives the lines of bit 0, and that its tick samples no EJ in the sense of R163, is the model's
choice (notes/assumptions/37.md, 39.md). -/
def Obligations.ResetReleaseStarts : Prop :=
  (∀ (s : State) (p : Straps) (ej : Bool), s.running = false →
    ∃ u, exec (.resetRelease p ej) s = .next u ∧
      u.pins = { s.pins with rstn := true, ej := ej, straps := p } ∧ u.straps = p ∧
      u.ftu = { s.ftu with tick := 0, frameStart := s.ftu.crystal, length := 4096 } ∧
      (∀ r, u.monitor r =
        if p.refCode r = 0b00#2 then { s.monitor r with state := .absent }
        else { s.monitor r with state := .down, activity := some 4608 }) ∧
      u.listen = { s.listen with withdrawn := ej, ejSampled := false } ∧
      u.rail = { s.rail with width := .listen, caps := Captures.blank, listenWindow := true } ∧
      u.selector = s.selector ∧ u.modes = s.modes ∧ u.counters = s.counters ∧
      (u.flags.restart = { v := true, s := true, x := false } ∨
        u.flags.restart = { v := true, s := s.flags.restart.v, x := true }) ∧
      (∀ t, (u.trib t).rx = (s.trib t).rx) ∧
      u.maint.pageCounter = s.maint.pageCounter ∧ u.maint.pageSeq = s.maint.pageSeq ∧
      u.pending = s.pending ∧ u.inputs = s.inputs ∧
      (∀ t : TribId, u.out.oda[t] = (u.trib t).outFrame.getLsbD 255) ∧
      u.out.ock = false ∧ u.out.ofp = true ∧ u.out.msc = false ∧
      u.out.mso = u.maint.octetHi.getLsbD 7 ∧ (u.out.msf = true ↔ u.maint.pageCounter = 0)) ∧
  ∀ (s0 s : State) (p : Straps) (ej : Bool), exec .resetAssertion s0 = .next s →
    ∃ u, exec (.resetRelease p ej) s = .next u ∧
      u.running = true ∧ u.straps = p ∧
      u.ftu.tick = 0 ∧ u.ftu.length = 4096 ∧ u.ftu.officeIndex = 0 ∧ u.stamp = ⟨0, 0⟩ ∧
      (∀ t : TribId, (u.trib t).rx.align = .dark ∧ u.holdings t = 0 ∧ (u.trib t).storeState = .idle ∧
        (u.trib t).outFrame = 0b1011#4 ++ 0#3 ++ 1#1 ++ BitVec.allOnes 248 ∧
        (u.trib t).record = Record.reset) ∧
      u.free = 96 ∧
      u.counters = { refSwitches := 0, holdEntries := 0, relabels := 0, leadLost := 0 } ∧
      (∀ r, (p.refCode r = 0b00#2 → (u.monitor r).state = .absent) ∧
        (p.refCode r ≠ 0b00#2 →
          (u.monitor r).state = .down ∧ (u.monitor r).activity = some 4608)) ∧
      u.modes.mode = .listen ∧ u.modes.grade = none ∧
      (∀ line, u.ownLow line = false) ∧ u.rail.width = .listen ∧ u.rail.listenWindow = true ∧
      u.listen.withdrawn = ej ∧ u.listen.phase = .running ∧
      (u.flags.restart = { v := true, s := true, x := false } ∨
        u.flags.restart = { v := true, s := false, x := true }) ∧
      (∀ f, f ≠ .restart → u.flags.get f = { v := false, s := false, x := false }) ∧
      u.maint.pageCounter = 0 ∧ u.maint.pageSeq = 0

/-! Tributary receivers (chapter 01) -/

/-- The six rows that deliver a bit are occasions of one rising edge: each has the effect of
LINE_CLOCK_EDGE where its own occasion is not met, and the same effect where it is. The model's choice
(notes/assumptions/6.md), from R3: every rising edge is taken as a bit. -/
def Obligations.EdgesAgree : Prop :=
  ∀ (s : State) (t : TribId) (b : Bool),
    exec (.leaveDark t b) s = exec (.lineClockEdge t b) s ∧
    exec (.candidate t b) s = exec (.lineClockEdge t b) s ∧
    exec (.verifyCheck t b) s = exec (.lineClockEdge t b) s ∧
    exec (.syncOctetCheck t b) s = exec (.lineClockEdge t b) s ∧
    exec (.frameCompletion t b) s = exec (.lineClockEdge t b) s

/-- Commands without an occasion change nothing (the model's reading, notes/assumptions/5.md): an edge or
a dark entry of a disabled receiver (R1), a dark entry of a receiver already in DARK (R4), and a release
of a station out of reset. -/
def Obligations.NoOccasion : Prop :=
  (∀ (s : State) (t : TribId) (b : Bool), s.enabled t = false →
    exec (.lineClockEdge t b) s = .next s ∧ exec (.darkEntry t) s = .next s) ∧
  (∀ (s : State) (t : TribId), (s.trib t).rx.align = .dark → exec (.darkEntry t) s = .next s) ∧
  (∀ (s : State) (p : Straps) (ej : Bool), s.running = true →
    exec (.resetRelease p ej) s = .next s)

/-- R7: leaving DARK. -/
def Obligations.LeaveDark : Prop :=
  ∀ (s : State) (t : TribId) (b : Bool),
    s.running = true → s.enabled t = true → (s.trib t).rx.align = .dark →
    exec (.leaveDark t b) s = .next (s.setTrib t { s.trib t with
      rx := { (s.trib t).rx with align := .search, window := [b], darkTimer := some 256 } })

/-- R9: a bit in SEARCH. The window keeps the last eight bits; fewer than eight are not tested; eight
that begin 1, 0, 1, 1 are the candidate. -/
def Obligations.SearchAndCandidate : Prop :=
  ∀ (s : State) (t : TribId) (b : Bool),
    s.running = true → s.enabled t = true → (s.trib t).rx.align = .search →
    ((s.trib t).rx.window.length < 7 →
      exec (.lineClockEdge t b) s = .next (s.setTrib t { s.trib t with
        rx := { (s.trib t).rx with
          window := (s.trib t).rx.window ++ [b], darkTimer := some 256 } })) ∧
    (∀ old b1 b2 b3 b4 b5 b6 b7,
      (s.trib t).rx.window = old ++ [b1, b2, b3, b4, b5, b6, b7] →
      ([b1, b2, b3, b4] ≠ [true, false, true, true] →
        exec (.lineClockEdge t b) s = .next (s.setTrib t { s.trib t with
          rx := { (s.trib t).rx with
            window := [b1, b2, b3, b4, b5, b6, b7, b], darkTimer := some 256 } })) ∧
      ([b1, b2, b3, b4] = [true, false, true, true] →
        exec (.candidate t b) s = .next (s.setTrib t { s.trib t with
          rx := { (s.trib t).rx with
            window := [b1, b2, b3, b4, b5, b6, b7, b]
            candIndex := BitVec.ofBool b5 ++ BitVec.ofBool b6 ++ BitVec.ofBool b7
            lastSync := 0b1011#4 ++ BitVec.ofBool b5 ++ BitVec.ofBool b6 ++ BitVec.ofBool b7 ++
              BitVec.ofBool b
            verifyStep := .first
            countdown := 256
            align := .verify
            darkTimer := some 256 } })))

/-- R10, R11: the check in VERIFY. `o` is the octet with its b8. A good first check goes to the second
step; a good second check enters ALIGNED, makes the cell request and moves an IDLE store to PRIME; any
other returns to SEARCH with an empty window. That the candidate index and the verify step are kept there is the
model's choice (notes/assumptions/11.md). -/
def Obligations.VerifyCheck : Prop :=
  ∀ (s : State) (t : TribId) (b : Bool) (o : Octet),
    s.running = true → s.enabled t = true → (s.trib t).rx.align = .verify →
    (s.trib t).rx.countdown = 1 →
    o = ((s.trib t).rx.octet <<< 1) ||| (if b then 1#8 else 0#8) →
    ((s.trib t).rx.verifyStep = .first →
      o.extractLsb' 4 4 = 0b1011#4 → o.extractLsb' 1 3 = (s.trib t).rx.candIndex + 1 →
      exec (.verifyCheck t b) s = .next (s.setTrib t { s.trib t with
        rx := { (s.trib t).rx with
          octet := o, lastSync := o, darkTimer := some 256, verifyStep := .second,
          countdown := 256 } })) ∧
    ((s.trib t).rx.verifyStep = .second →
      o.extractLsb' 4 4 = 0b1011#4 → o.extractLsb' 1 3 = (s.trib t).rx.candIndex + 2 →
      ∃ v u, exec (.verifyCheck t b) s = .next u ∧
        v = (s.setTrib t { s.trib t with
          rx := { (s.trib t).rx with
            octet := o, lastSync := o, darkTimer := some 256, countdown := 0, align := .aligned,
            expected := (s.trib t).rx.candIndex + 3, badRun := 0, bitPos := 8,
            mLatch := o.getLsbD 0 } }).cellRequest t ∧
        u = v.setTrib t { v.trib t with
          storeState :=
            if (s.trib t).storeState = .idle then .prime else (s.trib t).storeState }) ∧
    ((o.extractLsb' 4 4 ≠ 0b1011#4 ∨
        o.extractLsb' 1 3 ≠ (s.trib t).rx.candIndex +
          (match (s.trib t).rx.verifyStep with | .first => 1#3 | .second => 2#3)) →
      exec (.verifyCheck t b) s = .next (s.setTrib t { s.trib t with
        rx := { (s.trib t).rx with
          octet := o, lastSync := o, darkTimer := some 256, countdown := 0, align := .search,
          window := [] } }))

/-- R3, R4, R10, R12: the edges that complete nothing. In VERIFY the countdown falls; at positions 0 to
6 the bit joins the octet; at positions 8 to 254 it is written in its place in the filling cell, and
no other bit of the cell changes. Every edge reloads the dark timer. -/
def Obligations.PlainEdges : Prop :=
  ∀ (s : State) (t : TribId) (b : Bool), s.running = true → s.enabled t = true →
    ((s.trib t).rx.align = .verify → 2 ≤ (s.trib t).rx.countdown →
      exec (.lineClockEdge t b) s = .next (s.setTrib t { s.trib t with
        rx := { (s.trib t).rx with
          octet := ((s.trib t).rx.octet <<< 1) ||| (if b then 1#8 else 0#8)
          countdown := (s.trib t).rx.countdown - 1
          darkTimer := some 256 } })) ∧
    ((s.trib t).rx.align = .aligned → (s.trib t).rx.bitPos < 7 →
      exec (.lineClockEdge t b) s = .next (s.setTrib t { s.trib t with
        rx := { (s.trib t).rx with
          octet := ((s.trib t).rx.octet <<< 1) ||| (if b then 1#8 else 0#8)
          bitPos := (s.trib t).rx.bitPos + 1
          darkTimer := some 256 } })) ∧
    (∀ p : Payload, (s.trib t).rx.align = .aligned → 8 ≤ (s.trib t).rx.bitPos →
      (s.trib t).rx.bitPos < 255 → (s.trib t).store.filling = some p →
      ∃ p' : Payload,
        exec (.lineClockEdge t b) s = .next (s.setTrib t { s.trib t with
          rx := { (s.trib t).rx with
            bitPos := (s.trib t).rx.bitPos + 1, darkTimer := some 256 }
          store := { (s.trib t).store with filling := some p' } }) ∧
        ∀ k, 8 ≤ k → k ≤ 255 →
          p'.getLsbD (255 - k) =
            if k = (s.trib t).rx.bitPos.toNat then b else p.getLsbD (255 - k))

/-- R13, R14: the check at position 7. A good octet clears the bad run, a bad one raises it; the index
flies on either way; the fourth bad octet in a row loses alignment, releases the filling cell and is
reported. -/
def Obligations.SyncOctetCheck : Prop :=
  ∀ (s : State) (t : TribId) (b : Bool) (o : Octet),
    s.running = true → s.enabled t = true → (s.trib t).rx.align = .aligned →
    (s.trib t).rx.bitPos = 7 →
    o = ((s.trib t).rx.octet <<< 1) ||| (if b then 1#8 else 0#8) →
    (o.extractLsb' 4 4 = 0b1011#4 ∧ o.extractLsb' 1 3 = (s.trib t).rx.expected →
      exec (.syncOctetCheck t b) s = .next (s.setTrib t { s.trib t with
        rx := { (s.trib t).rx with
          octet := o, lastSync := o, mLatch := o.getLsbD 0, badRun := 0,
          expected := (s.trib t).rx.expected + 1, bitPos := 8, darkTimer := some 256 } })) ∧
    (¬ (o.extractLsb' 4 4 = 0b1011#4 ∧ o.extractLsb' 1 3 = (s.trib t).rx.expected) →
      ((s.trib t).rx.badRun < 3 →
        exec (.syncOctetCheck t b) s = .next (s.setTrib t { s.trib t with
          rx := { (s.trib t).rx with
            octet := o, lastSync := o, mLatch := o.getLsbD 0, badRun := (s.trib t).rx.badRun + 1,
            expected := (s.trib t).rx.expected + 1, bitPos := 8, darkTimer := some 256 } })) ∧
      ((s.trib t).rx.badRun = 3 → (s.trib t).store.filling.isSome = true →
        exec (.syncOctetCheck t b) s = .next { s.setTrib t { s.trib t with
            rx := { (s.trib t).rx with
              octet := o, lastSync := o, mLatch := o.getLsbD 0, badRun := 0,
              expected := (s.trib t).rx.expected + 1, bitPos := 8, darkTimer := some 256,
              align := .search, window := [] }
            store := { (s.trib t).store with filling := none }
            record := { (s.trib t).record with
              alignLosses := (s.trib t).record.alignLosses + 1 } } with
          free := s.free + 1
          flags := { s.flags with
            alignLoss := { s.flags.alignLoss with v := true, x := true } } }))

/-- R5: the dark entry, by the state it leaves. What a receiver keeps of an abandoned VERIFY is not
stated. -/
def Obligations.DarkEntry : Prop :=
  ∀ (s : State) (t : TribId), s.running = true → s.enabled t = true →
    (s.trib t).rx.align ≠ .dark →
    ∃ u x, exec (.darkEntry t) s = .next u ∧
      u = { s.setTrib t { s.trib t with
          rx := x
          store := { (s.trib t).store with filling := none }
          record := { (s.trib t).record with
            darkEntries := (s.trib t).record.darkEntries + 1 } } with
        free := s.free + (if (s.trib t).store.filling.isSome then 1 else 0)
        flags := { s.flags with dark := { s.flags.dark with v := true, x := true } } } ∧
      x.align = .dark ∧ x.darkTimer = none ∧ x.lastSync = (s.trib t).rx.lastSync ∧
      ((s.trib t).rx.align = .search →
        x = { (s.trib t).rx with align := .dark, darkTimer := none, window := [] }) ∧
      ((s.trib t).rx.align = .aligned →
        x = { (s.trib t).rx with align := .dark, darkTimer := none, badRun := 0 })

/-- R15, R34, R35, R36, R41: the completion. The last bit is written; a full queue loses its DEP − C + 1
oldest frames as one delete slip; the frame joins the tail with the M latch; then the cell request is
taken. -/
def Obligations.FrameCompletion : Prop :=
  ∀ (s : State) (t : TribId) (b : Bool) (p : Payload),
    s.running = true → s.enabled t = true → (s.trib t).rx.align = .aligned →
    (s.trib t).rx.bitPos = 255 → (s.trib t).store.filling = some p →
    ∃ p' : Payload,
      p'.getLsbD 0 = b ∧ (∀ j, 1 ≤ j → p'.getLsbD j = p.getLsbD j) ∧
      ((s.trib t).store.queue.length ≠ s.straps.dep.value →
        exec (.frameCompletion t b) s = .next ((s.setTrib t { s.trib t with
          rx := { (s.trib t).rx with bitPos := 0, darkTimer := some 256 }
          store := { (s.trib t).store with
            filling := none
            queue := (s.trib t).store.queue ++ [⟨p', (s.trib t).rx.mLatch⟩] } }).cellRequest t)) ∧
      ((s.trib t).store.queue.length = s.straps.dep.value →
        let n := s.straps.dep.value - s.straps.dep.centre + 1
        let r := (s.trib t).record
        exec (.frameCompletion t b) s = .next (State.cellRequest { s.setTrib t { s.trib t with
            rx := { (s.trib t).rx with bitPos := 0, darkTimer := some 256 }
            store := { (s.trib t).store with
              filling := none
              queue := (s.trib t).store.queue.drop n ++ [⟨p', (s.trib t).rx.mLatch⟩] }
            record := { r with
              deleteEvents := r.deleteEvents + 1
              deletedFrames := r.deletedFrames + BitVec.ofNat 16 n
              firstSlip := some (r.firstSlip.getD ⟨.delete, s.stamp⟩)
              lastSlip := some ⟨.delete, s.stamp⟩
              detail := some ⟨.delete, n, s.straps.dep.value, s.free - s.unmet⟩
              openRepeat := false } } with
          free := s.free + n
          flags := { s.flags with slip := { s.flags.slip with v := true, x := true } } } t))

/-! The pool (chapter 02) -/

/-- R28, R29, R31, R32, R42: the cell request of a tributary without a filling cell. It is granted under
the floor, or above it while a shared cell is free; otherwise it is an eviction from the victim, or an own
drop where there is none. -/
def Obligations.CellRequest : Prop :=
  ∀ (s : State) (t : TribId), (s.trib t).store.filling = none →
    ∃ p0 : Payload,
    (s.holdings t < 3 ∨ s.unmet ≤ s.free - 1 ∧ 1 ≤ s.free →
      s.cellRequest t = { s.setTrib t { s.trib t with
        store := { (s.trib t).store with filling := some p0 } } with free := s.free - 1 }) ∧
    (3 ≤ s.holdings t → s.free < s.unmet + 1 →
      (∀ v, s.victim t = some v →
        let q := (s.trib v).store.queue
        let r := (s.trib v).record
        ∃ w : State,
          w = s.setTrib v { s.trib v with
            store := { (s.trib v).store with queue := q.tail }
            record := { r with
              squeezes := r.squeezes + 1
              firstSlip := some (r.firstSlip.getD ⟨.evicted, s.stamp⟩)
              lastSlip := some ⟨.evicted, s.stamp⟩
              detail := some ⟨.evicted, 1, q.length, 0⟩
              openRepeat := false } } ∧
          s.cellRequest t = { w.setTrib t { s.trib t with
              store := { (s.trib t).store with filling := some p0 }
              record := { (s.trib t).record with
                evictionsCaused := (s.trib t).record.evictionsCaused + 1 } } with
            flags := { s.flags with squeeze := { s.flags.squeeze with v := true, x := true } } }) ∧
      (s.victim t = none →
        let q := (s.trib t).store.queue
        let r := (s.trib t).record
        s.cellRequest t = { s.setTrib t { s.trib t with
            store := { (s.trib t).store with filling := some p0, queue := q.tail }
            record := { r with
              squeezes := r.squeezes + 1
              firstSlip := some (r.firstSlip.getD ⟨.own, s.stamp⟩)
              lastSlip := some ⟨.own, s.stamp⟩
              detail := some ⟨.own, 1, q.length, 0⟩
              openRepeat := false } } with
          flags := { s.flags with squeeze := { s.flags.squeeze with v := true, x := true } } }))

/-- R30: the candidates for a squeeze by t, the victim among them, and the own drop where there is none. -/
def Obligations.VictimChoice : Prop :=
  ∀ (s : State) (t : TribId),
    let candidate := fun v : TribId =>
      v ≠ t ∧ s.enabled v = true ∧ s.classOf v < s.classOf t ∧ 3 < s.holdings v ∧
        1 ≤ (s.trib v).store.queue.length
    (∀ v, s.victim t = some v ↔
      candidate v ∧ ∀ w, candidate w → w ≠ v →
        s.classOf v < s.classOf w ∨
        (s.classOf v = s.classOf w ∧ s.holdings w < s.holdings v) ∨
        (s.classOf v = s.classOf w ∧ s.holdings v = s.holdings w ∧ w < v)) ∧
    (s.victim t = none ↔ ∀ v, ¬ candidate v) ∧
    (s.victim t = none → 3 ≤ s.holdings t → s.free < s.unmet + 1 →
      s.cellRequest t = s.ownDrop t)

/-- The laws of the pool are kept by every step: R22, R23, R25, R12, R24, R44. -/
def Obligations.PoolLawKept : Prop :=
  ∀ s u : State, s.PoolLaw → step s = .next u → u.PoolLaw

/-! Readout and records (chapters 03 and 04), at OFFICE_BOUNDARY -/

/-- R47 to R53, R56, R57: the boundary decision of every tributary from its store state, alignment, queue
length and centre. x and y are the tributary before and after. -/
def Obligations.BoundaryReadout : Prop :=
  ∀ (s : State) (ej : Bool), s.running = true →
    ∃ u, exec (.officeBoundary ej) s = .next u ∧
      ∀ t : TribId,
        let x := s.trib t
        let y := u.trib t
        let fill : BitVec 256 := 0b1011#4 ++ u.ftu.officeIndex ++ 1#1 ++ BitVec.allOnes 248
        let dequeued := ∃ c rest, x.store.queue = c :: rest ∧
          y.store = { x.store with transmitting := some c, queue := rest } ∧
          y.storeState = .normal ∧ y.repeatRun = 0 ∧
          y.outFrame = 0b1011#4 ++ u.ftu.officeIndex ++ BitVec.ofBool c.m ++ c.payload
        let stays := y.store = x.store ∧ y.storeState = x.storeState ∧
          y.repeatRun = x.repeatRun ∧ y.outFrame = fill
        let idles := y.store = { x.store with transmitting := none } ∧ y.storeState = .idle ∧
          y.repeatRun = 0 ∧ y.outFrame = fill
        let repeats := fun run : Nat => ∀ c, x.store.transmitting = some c →
          y.store = x.store ∧ y.storeState = .refill ∧ y.repeatRun = run ∧
          y.outFrame = 0b1011#4 ++ u.ftu.officeIndex ++ BitVec.ofBool c.m ++ c.payload
        y.rx = x.rx ∧
        (s.enabled t = false →
          y.store = x.store ∧ y.storeState = x.storeState ∧ y.record = x.record ∧
            y.outFrame = fill) ∧
        (s.enabled t = true →
          (x.storeState = .idle → stays) ∧
          (x.storeState = .prime →
            (s.straps.dep.centre ≤ x.store.queue.length → dequeued) ∧
            (x.store.queue.length < s.straps.dep.centre → x.rx.align = .aligned → stays) ∧
            (x.rx.align ≠ .aligned → 1 ≤ x.store.queue.length → dequeued) ∧
            (x.rx.align ≠ .aligned → x.store.queue = [] → idles)) ∧
          (x.storeState = .normal →
            (1 ≤ x.store.queue.length → dequeued) ∧
            (x.store.queue = [] → x.rx.align = .aligned → repeats 1) ∧
            (x.store.queue = [] → x.rx.align ≠ .aligned → idles)) ∧
          (x.storeState = .refill →
            (x.rx.align = .aligned → x.store.queue.length < s.straps.dep.centre →
              repeats (min 255 (x.repeatRun + 1))) ∧
            (x.rx.align = .aligned → s.straps.dep.centre ≤ x.store.queue.length → dequeued) ∧
            (x.rx.align ≠ .aligned → 1 ≤ x.store.queue.length → dequeued) ∧
            (x.rx.align ≠ .aligned → x.store.queue = [] → idles)))

/-- The record of an enabled tributary at a boundary (R50, R51, R52, R69 to R76): the start, the
continuation and the close of a repeat slip, and the watermark offer of the queue length left by the
decision, with the stamp of the frame that the boundary begins. -/
def Obligations.BoundaryRecord : Prop :=
  ∀ (s : State) (ej : Bool) (t : TribId), s.running = true → s.enabled t = true →
    ∃ u, exec (.officeBoundary ej) s = .next u ∧
      let x := s.trib t
      let r := (s.trib t).record
      let len := (u.trib t).store.queue.length
      let offered := fun (q : Record) =>
        if u.ftu.frameInSecond = 0 then
          { q with low := q.runLow, high := q.runHigh, runLow := len, runHigh := len }
        else { q with runLow := min q.runLow len, runHigh := max q.runHigh len }
      (x.storeState = .idle ∨ x.storeState = .prime → (u.trib t).record = offered r) ∧
      (x.storeState = .normal → x.store.queue = [] → x.rx.align = .aligned →
        (u.trib t).record = offered { r with
          repeatEvents := r.repeatEvents + 1
          repeatedFrames := r.repeatedFrames + 1
          firstSlip := some (r.firstSlip.getD ⟨.repeated, u.stamp⟩)
          lastSlip := some ⟨.repeated, u.stamp⟩
          detail := some ⟨.repeated, 1, 0, s.free - s.unmet⟩
          openRepeat := true
          currentRun := 1 } ∧
        u.flags.slip.v = true) ∧
      (x.storeState = .normal → (1 ≤ x.store.queue.length ∨ x.rx.align ≠ .aligned) →
        (u.trib t).record = offered r) ∧
      (x.storeState = .refill → x.rx.align = .aligned →
        x.store.queue.length < s.straps.dep.centre →
        (u.trib t).record = offered { r with
          repeatedFrames := r.repeatedFrames + 1
          currentRun := min 255 (x.repeatRun + 1)
          detail :=
            if r.openRepeat then
              r.detail.map fun d => { d with frames := min 255 (x.repeatRun + 1) }
            else r.detail }) ∧
      (x.storeState = .refill →
        (x.rx.align ≠ .aligned ∨ s.straps.dep.centre ≤ x.store.queue.length) →
        (u.trib t).record = offered { r with currentRun := 0, openRepeat := false })

/-- R75, R76: the watermarks stay in order under every step, and within 0 to 8. The premise PoolLaw
bounds the queue length that is offered. -/
def Obligations.MarksOrderedKept : Prop :=
  ∀ s u : State, s.PoolLaw → (∀ t, (s.trib t).record.MarksOrdered) → step s = .next u →
    ∀ t, (u.trib t).record.MarksOrdered

/-- R69: a first slip, once present, is kept by every command but the assertion of RSTn. -/
def Obligations.FirstSlipKept : Prop :=
  ∀ (c : Instr) (s u : State) (t : TribId) (m : SlipMark), c ≠ .resetAssertion →
    (s.trib t).record.firstSlip = some m → exec c s = .next u →
    (u.trib t).record.firstSlip = some m

/-! The frame timing unit (chapter 05) -/

/-- R80, R85, R86, R98: the length and fraction of the frame that a boundary begins. A withdrawal at the
same tick may have made F equal to I before. -/
def Obligations.BoundaryLength : Prop :=
  ∀ (s : State) (ej : Bool), s.running = true →
    ∃ u, exec (.officeBoundary ej) s = .next u ∧
      u.ftu.tick = 0 ∧ u.ftu.frameStart = s.ftu.frameStart + s.ftu.length ∧
      u.ftu.joinRequest = none ∧
      (∀ o, s.ftu.joinRequest = some o →
        u.ftu.length = 4096 + o ∧ u.ftu.fraction = s.ftu.fraction) ∧
      (s.ftu.joinRequest = none →
        ∃ f : Int,
          (f = s.ftu.frequency ∨
            (s.listen.withdrawRequest = true ∧ s.modes.mode ≠ .listen ∧ f = s.ftu.integral)) ∧
          u.ftu.length = (4096 + (s.ftu.fraction + f) / 65536).toNat ∧
          u.ftu.fraction = s.ftu.fraction + f - 65536 * ((s.ftu.fraction + f) / 65536) ∧
          (0 ≤ s.ftu.fraction → s.ftu.fraction ≤ 65535 → -65535 ≤ f → f ≤ 65535 →
            (u.ftu.length = 4095 ∨ u.ftu.length = 4096 ∨ u.ftu.length = 4097) ∧
            0 ≤ u.ftu.fraction ∧ u.ftu.fraction ≤ 65535))

/-- R93 to R95: office index, frame-in-second, seconds counter and hold age at a boundary. -/
def Obligations.BoundaryClock : Prop :=
  ∀ (s : State) (ej : Bool), s.running = true → s.ftu.frameInSecond ≤ 7999 →
    ∃ u, exec (.officeBoundary ej) s = .next u ∧
      (s.ftu.indexRequest = none → u.ftu.officeIndex = s.ftu.officeIndex + 1) ∧
      (∀ k, s.ftu.indexRequest = some (.relabel k) →
        u.ftu.officeIndex = s.ftu.officeIndex + 1 - k) ∧
      (∀ v, s.ftu.indexRequest = some (.setTo v) → u.ftu.officeIndex = v) ∧
      u.ftu.indexRequest = none ∧
      (s.ftu.frameInSecond < 7999 →
        u.ftu.frameInSecond = s.ftu.frameInSecond + 1 ∧ u.ftu.seconds = s.ftu.seconds ∧
          u.ftu.holdAge = s.ftu.holdAge) ∧
      (s.ftu.frameInSecond = 7999 →
        u.ftu.frameInSecond = 0 ∧ u.ftu.seconds = s.ftu.seconds + 1 ∧
        (s.modes.mode ≠ .hold → u.ftu.holdAge = s.ftu.holdAge) ∧
        (s.modes.mode = .hold → s.listen.withdrawRequest = false → s.ftu.holdAge ≤ 86400 →
          u.ftu.holdAge = min 86400 (s.ftu.holdAge + 1)))

/-- R83, R84: the computation of one measured close, and of one without a measurement. -/
def Obligations.CloseComputation : Prop :=
  ∀ (f : Ftu) (m : Mode),
    ((f.close m none).integral = f.integral ∧ (f.close m none).frequency = f.integral ∧
      (f.close m none).lastError = none) ∧
    ∀ x e p di i' s0 i : Int,
      e = max (-512) (min 512 x) →
      p = (match f.gain with | .acquire => 512 | .track => 64) →
      di = (match f.gain with | .acquire => e | .track => (e + 4) / 8) →
      i' = f.integral + di → s0 = i' + p * e →
      i = (if -65535 ≤ s0 ∧ s0 ≤ 65535 then max (-32767) (min 32767 i') else f.integral) →
      (f.close m (some x)).integral = i ∧
      (f.close m (some x)).frequency = max (-65535) (min 65535 (i + p * e)) ∧
      (f.close m (some x)).lastError = some e

/-- R87: the runs of the gain sets, counted at measured closes only. -/
def Obligations.GainRuns : Prop :=
  ∀ (f : Ftu) (m : Mode) (x e : Int), e = max (-512) (min 512 x) →
    ((f.close m none).gain = f.gain ∧ (f.close m none).settleRun = f.settleRun ∧
      (f.close m none).excursionRun = f.excursionRun) ∧
    (f.gain = .acquire →
      (e.natAbs ≤ 8 → f.settleRun < 63 →
        (f.close m (some x)).gain = .acquire ∧
          (f.close m (some x)).settleRun = f.settleRun + 1) ∧
      (e.natAbs ≤ 8 → f.settleRun = 63 →
        (f.close m (some x)).gain = .track ∧ (f.close m (some x)).settleRun = 0 ∧
          (f.close m (some x)).excursionRun = 0) ∧
      (8 < e.natAbs →
        (f.close m (some x)).gain = .acquire ∧ (f.close m (some x)).settleRun = 0)) ∧
    (f.gain = .track →
      (256 < e.natAbs → f.excursionRun < 15 →
        (f.close m (some x)).gain = .track ∧
          (f.close m (some x)).excursionRun = f.excursionRun + 1) ∧
      (256 < e.natAbs → f.excursionRun = 15 →
        (f.close m (some x)).gain = .acquire ∧ (f.close m (some x)).settleRun = 0 ∧
          (f.close m (some x)).excursionRun = 0) ∧
      (e.natAbs ≤ 256 →
        (f.close m (some x)).gain = .track ∧ (f.close m (some x)).excursionRun = 0))

/-- R89, R90: the holdover history moves at measured closes in ANCHOR with the TRACK gain set, with the
integral word that the close leaves, and at no other. One update moves H toward 256 × I, never past it,
and never out of ±8,388,352. -/
def Obligations.History : Prop :=
  (∀ (f : Ftu) (m : Mode) (x : Int),
    (m = .anchor → f.gain = .track →
      (f.close m (some x)).history =
        f.history + (256 * (f.close m (some x)).integral - f.history + 128) / 256) ∧
    (m ≠ .anchor ∨ f.gain = .acquire → (f.close m (some x)).history = f.history) ∧
    (f.close m none).history = f.history) ∧
  ∀ h i d u : Int, d = 256 * i - h → u = historyStep h i →
    (1 ≤ d → 0 ≤ u - h ∧ u - h ≤ d) ∧ (d ≤ -1 → d ≤ u - h ∧ u - h ≤ 0) ∧ (d = 0 → u = h) ∧
    (-32767 ≤ i → i ≤ 32767 → -8388352 ≤ h → h ≤ 8388352 → -8388352 ≤ u ∧ u ≤ 8388352)

/-- R96: the RANGE run. A close that clamps F counts, any other clears; the 8000th in a row raises RANGE
and the run starts again. -/
def Obligations.RangeRun : Prop :=
  ∀ (f : Ftu) (m : Mode) (x e p : Int),
    e = max (-512) (min 512 x) →
    p = (match f.gain with | .acquire => 512 | .track => 64) →
    (f.close m none).rangeRun = 0 ∧ f.closeRaisesRange none = false ∧
    (let raw := (f.close m (some x)).integral + p * e
     ((-65535 ≤ raw ∧ raw ≤ 65535) →
        (f.close m (some x)).rangeRun = 0 ∧ f.closeRaisesRange (some x) = false) ∧
     (¬ (-65535 ≤ raw ∧ raw ≤ 65535) →
        (f.rangeRun < 7999 → (f.close m (some x)).rangeRun = f.rangeRun + 1 ∧
          f.closeRaisesRange (some x) = false) ∧
        (f.rangeRun = 7999 → (f.close m (some x)).rangeRun = 0 ∧
          f.closeRaisesRange (some x) = true)))

/-- R82, R96, R97, R118, R123, R129, R144: which phase error the close takes, by mode, whether RANGE is
raised for it, and the grade, recomputed from what the close leaves. The requests that the marks and the join
may leave with the FTU at the same close are named apart. In TRACK the lead-absent run counts the closes without a
rail error up to the lead loss, and a rail error ends it; a close in another mode leaves it. In HOLD a best grade
above the three values of R129 makes a change to TRACK, taken before or after the close's own work: the close is
unmeasured in HOLD, or takes the rail error with the ACQUIRE factors; H and the hold age are kept. -/
def Obligations.CloseSource : Prop :=
  ∀ s : State, s.running = true →
    ∃ u, exec .measurementClose s = .next u ∧
      u.modes.grade =
        gradeOf u.modes.mode u.ftu.gain (u.selector.selected.bind s.straps.refClass) u.ftu.holdAge ∧
      (let same := fun f : Ftu =>
        u.ftu = { f with indexRequest := u.ftu.indexRequest, joinRequest := u.ftu.joinRequest }
       let range := fun (f : Ftu) (e : Option Int) =>
        u.flags.range =
          if f.closeRaisesRange e then { s.flags.range with v := true, x := true } else s.flags.range
       (s.modes.mode = .listen →
          same (s.ftu.close .listen none) ∧ range s.ftu none ∧ u.modes.mode = .listen ∧
          u.rail.leadAbsentRun = s.rail.leadAbsentRun) ∧
       (s.modes.mode = .anchor →
          same (s.ftu.close .anchor s.selector.offered) ∧ range s.ftu s.selector.offered ∧
          u.modes.mode = .anchor ∧ u.selector = { s.selector with offered := none } ∧
          u.rail.leadAbsentRun = s.rail.leadAbsentRun) ∧
       (s.modes.mode = .track → u.modes.mode = .track ∧
          (u.rail.railError ≠ none → u.rail.leadAbsentRun = 0) ∧
          (u.rail.railError = none → s.rail.leadAbsentRun ≠ 63 →
            u.rail.leadAbsentRun = s.rail.leadAbsentRun + 1 ∧ u.counters.leadLost = s.counters.leadLost ∧
            u.flags.leadLost = s.flags.leadLost) ∧
          (¬ (u.rail.railError = none ∧ s.rail.leadAbsentRun = 63) →
            same (s.ftu.close .track u.rail.railError) ∧ range s.ftu u.rail.railError) ∧
          (u.rail.railError = none → s.rail.leadAbsentRun = 63 →
            same ({ s.ftu with gain := .acquire, settleRun := 0, excursionRun := 0 }.close .track none) ∧
            range s.ftu none ∧ u.flags.leadLost = { s.flags.leadLost with v := true, x := true } ∧
            u.counters.leadLost = s.counters.leadLost + 1 ∧ u.rail.leadAbsentRun = 0)) ∧
       (s.modes.mode = .hold →
          let better := s.modes.grade.getD 0 < u.rail.bestGrade ∧
            s.rail.drivenGrade.getD 0 < u.rail.bestGrade ∧
            s.rail.caps.pulseGrade.getD 0 < u.rail.bestGrade
          (¬ better → same (s.ftu.close .hold none) ∧ range s.ftu none ∧ u.modes.mode = .hold ∧
            u.rail.leadAbsentRun = s.rail.leadAbsentRun) ∧
          (better → u.modes.mode = .track ∧ u.modes.grade = some 1 ∧ u.ftu.gain = .acquire ∧
            u.modes.offsetRun = 0 ∧ u.ftu.history = s.ftu.history ∧ u.ftu.holdAge = s.ftu.holdAge ∧
            (let acquire := fun f : Ftu => { f with gain := .acquire, settleRun := 0, excursionRun := 0 }
             same (acquire (s.ftu.close .hold none)) ∧ range s.ftu none ∧ u.rail.leadAbsentRun = 0 ∨
             same ((acquire s.ftu).close .track u.rail.railError) ∧
              range (acquire s.ftu) u.rail.railError ∧
              u.rail.leadAbsentRun = if u.rail.railError = none then 1 else 0))))

/-- The ranges of the FTU are kept by every step (R84, R85, R87, R90, R94, R95, R96). -/
def Obligations.FtuRangesKept : Prop :=
  ∀ s u : State, s.ftu.Ranges → step s = .next u → u.ftu.Ranges

/-! Reference monitors and selector (chapter 06) -/

/-- R102: the class of each reference by its strap. -/
def Obligations.ReferenceClasses : Prop :=
  ∀ (p : Straps) (r : RefId),
    (p.refCode r = 0b00#2 → p.refClass r = none) ∧
    (p.refCode r = 0b01#2 → p.refClass r = some .classB) ∧
    (p.refCode r = 0b10#2 → p.refClass r = some .classA) ∧
    (p.refCode r = 0b11#2 → p.refClass r = some .classA) ∧
    ∀ s : State, (s.monitor r).state = .absent →
      (∀ n, exec (.acceptedEdge r n) s = .next s) ∧ exec (.missingEdge r) s = .next s

/-- R106, R108, R109: an accepted edge and a missing edge in DOWN and QUALIFYING, of a reference that is
not selected. At Q the monitor is QUALIFIED; what the selector makes of that is stated in Qualification. -/
def Obligations.EarningTrust : Prop :=
  ∀ (s : State) (r : RefId) (n : Nat), s.running = true → s.selector.selected ≠ some r →
    let m := s.monitor r
    let edge := fun x : Monitor =>
      { x with lastEdge := some n, activity := some 4608, armed := false, highTicks := 8 }
    let good := ∃ e, m.lastEdge = some e ∧ e + 4092 ≤ n ∧ n ≤ e + 4100
    let bad := ∃ e, m.lastEdge = some e ∧ ¬ (e + 4092 ≤ n ∧ n ≤ e + 4100)
    let q := if m.flap then 2400000 else 80000
    (m.state = .down →
      (good → exec (.acceptedEdge r n) s =
        .next (s.setMonitor r (edge { m with state := .qualifying, qualCount := 1 }))) ∧
      (bad ∨ m.lastEdge = none →
        exec (.acceptedEdge r n) s = .next (s.setMonitor r (edge m))) ∧
      exec (.missingEdge r) s =
        .next (s.setMonitor r { m with lastEdge := none, activity := some 4608 })) ∧
    (m.state = .qualifying →
      (good → m.qualCount + 1 < q → exec (.acceptedEdge r n) s =
        .next (s.setMonitor r (edge { m with qualCount := m.qualCount + 1 }))) ∧
      (good → m.qualCount + 1 = q → ∃ u, exec (.acceptedEdge r n) s = .next u ∧
        u.monitor r =
          edge { m with state := .qualified, qualCount := q, impairRun := 0, qualRun := 0 } ∧
        u.monitor r.other = s.monitor r.other) ∧
      (bad → exec (.acceptedEdge r n) s =
        .next (s.setMonitor r (edge { m with state := .down, qualCount := 0 }))) ∧
      (m.lastEdge = none → exec (.acceptedEdge r n) s = .next (s.setMonitor r (edge m))) ∧
      exec (.missingEdge r) s = .next (s.setMonitor r
        { m with lastEdge := none, activity := some 4608, state := .down, qualCount := 0 }))

/-- R114, R117, R126, R144: what a qualification selects. A station that is not joined selects nothing; a
joined one without a selection enters ANCHOR, a change of mode; one that follows a reference of lower class
switches. No flag is raised. -/
def Obligations.Qualification : Prop :=
  ∀ (s : State) (r : RefId) (n e : Nat), s.running = true →
    (s.monitor r).state = .qualifying → (s.monitor r).lastEdge = some e →
    e + 4092 ≤ n → n ≤ e + 4100 →
    (s.monitor r).qualCount + 1 = (if (s.monitor r).flap then 2400000 else 80000) →
    s.selector.selected ≠ some r →
    ∃ u, exec (.acceptedEdge r n) s = .next u ∧ u.flags = s.flags ∧
      (s.modes.mode = .listen →
        u.selector = s.selector ∧ u.modes = s.modes ∧ u.ftu = s.ftu ∧ u.counters = s.counters ∧
          u.rail = s.rail) ∧
      (s.modes.mode ≠ .listen → s.selector.selected = none →
        (s.monitor r.other).state ≠ .qualified →
        u.selector = { s.selector with selected := some r, buildPending := true, offered := none } ∧
        u.modes = {
          mode := .anchor
          offsetRun := 0
          grade := some (if s.straps.refClass r = some .classA then 7 else 6) } ∧
        u.ftu = { s.ftu with settleRun := 0, excursionRun := 0 } ∧ u.counters = s.counters ∧
        u.rail = { s.rail with leadAbsentRun := 0 }) ∧
      (s.modes.mode = .anchor → s.selector.selected = some r.other →
        (s.straps.refClass r = some .classA ∧ s.straps.refClass r.other = some .classB →
          u.selector = { s.selector with selected := some r, buildPending := true, offered := none } ∧
          u.modes = { s.modes with grade := some 7 } ∧ u.ftu = s.ftu ∧ u.rail = s.rail ∧
          u.counters = { s.counters with refSwitches := s.counters.refSwitches + 1 }) ∧
        (¬ (s.straps.refClass r = some .classA ∧ s.straps.refClass r.other = some .classB) →
          u.selector = s.selector ∧ u.modes = s.modes ∧ u.ftu = s.ftu ∧ u.counters = s.counters ∧
            u.rail = s.rail))

/-- R105, R110, R117, R118: an accepted edge of a QUALIFIED reference that makes no loss. A good interval
clears the impairment run, none keeps it, a bad one is the first impairment. If the reference is selected, the
position becomes the build-out while that is pending, and otherwise the offer is twice the distance from the
build-out, the short way round; an interval that is not good offers nothing. An edge that rose up to seven ticks
before the boundary lies in the frame before (notes/assumptions/33.md). -/
def Obligations.SelectedEdge : Prop :=
  ∀ (s : State) (r : RefId) (n : Nat) (pos d : Int), s.running = true →
    (s.monitor r).state = .qualified →
    ((∃ t, n = s.ftu.frameStart + t ∧ t < s.ftu.length ∧
        pos = if t ≤ 2047 then (t : Int) else max (-2048) ((t : Int) - s.ftu.length)) ∨
      (∃ k : Nat, 1 ≤ k ∧ k ≤ 7 ∧ n + k = s.ftu.frameStart ∧ pos = -k)) →
    (d = pos - s.selector.buildOut ∧ -2048 ≤ d ∧ d ≤ 2047 ∨
      d = pos - s.selector.buildOut - 4096 ∧ 2047 < pos - s.selector.buildOut ∨
      d = pos - s.selector.buildOut + 4096 ∧ pos - s.selector.buildOut < -2048) →
    let m := s.monitor r
    let result := fun (run : Nat) (first other : Option Int) =>
      { s.setMonitor r { m with
          lastEdge := some n, activity := some 4608, armed := false, highTicks := 8,
          impairRun := run } with
        selector :=
          if s.selector.selected = some r then
            if s.selector.buildPending then
              { s.selector with buildOut := pos, buildPending := false, offered := first }
            else { s.selector with offered := other }
          else s.selector }
    (∀ e, m.lastEdge = some e → e + 4092 ≤ n → n ≤ e + 4100 →
      exec (.acceptedEdge r n) s = .next (result 0 (some 0) (some (max (-512) (min 512 (2 * d)))))) ∧
    (m.lastEdge = none → exec (.acceptedEdge r n) s = .next (result m.impairRun none none)) ∧
    (∀ e, m.lastEdge = some e → (n < e + 4092 ∨ e + 4100 < n) → m.impairRun = 0 →
      exec (.acceptedEdge r n) s = .next (result 1 none none))

/-- R107, R110, R111, R115, R118, R127, R128: impairments of a QUALIFIED reference. The first, at a missing
edge, costs the offer of a selected reference and nothing else (at an accepted edge: SelectedEdge). The second,
at a missing edge or at an accepted edge with a bad interval, is the loss: with no selection on it, with the
other reference QUALIFIED, and with none left. The last edge tick is cleared by a missing edge and is the new
edge's otherwise. That a bad edge ending a pending build-out writes B even as it makes the loss, and that the
pending mark is kept through a loss by a missing edge, is read by inference (notes/assumptions/20.md). -/
def Obligations.ReferenceLoss : Prop :=
  (∀ (s : State) (r : RefId), s.running = true → (s.monitor r).state = .qualified →
    (s.monitor r).impairRun = 0 →
    exec (.missingEdge r) s = .next
      { s.setMonitor r { s.monitor r with
          lastEdge := none, activity := some 4608, impairRun := 1 } with
        selector :=
          if s.selector.selected = some r then { s.selector with offered := none }
          else s.selector }) ∧
  ∀ (s : State) (r : RefId) (c : Instr) (last : Option Nat) (b : Int) (waits : Bool),
    s.running = true → (s.monitor r).state = .qualified → (s.monitor r).impairRun = 1 →
    (c = .missingEdge r ∧ last = none ∧ b = s.selector.buildOut ∧ waits = s.selector.buildPending ∨
      (∃ n e, c = .acceptedEdge r n ∧ (s.monitor r).lastEdge = some e ∧
        (n < e + 4092 ∨ e + 4100 < n) ∧ last = some n ∧ waits = false ∧
        b = if s.selector.buildPending then s.edgePosition n else s.selector.buildOut)) →
    ∃ u, exec c s = .next u ∧
      (let m := s.monitor r
       let close := ∃ p, m.lastLoss = some p ∧
         8000 * ((s.stamp.seconds - p.seconds).toNat : Int) + (s.stamp.frame - p.frame : Int) < 4800000
       u.monitor r.other = s.monitor r.other ∧
       (u.monitor r).state = .down ∧ (u.monitor r).qualCount = 0 ∧ (u.monitor r).impairRun = 0 ∧
       (u.monitor r).qualRun = 0 ∧ (u.monitor r).lastEdge = last ∧
       (u.monitor r).activity = some 4608 ∧ (u.monitor r).lastLoss = some s.stamp ∧
       ((u.monitor r).flap = true ↔ m.flap = true ∨ close) ∧
       (close → u.flags.flap = { s.flags.flap with v := true, x := true }) ∧
       (¬ close → u.flags.flap = s.flags.flap) ∧
       (s.selector.selected ≠ some r →
         u.selector = s.selector ∧ u.modes = s.modes ∧ u.ftu = s.ftu ∧ u.counters = s.counters ∧
         u.rail = s.rail ∧ u.flags.refLoss = s.flags.refLoss) ∧
       (s.selector.selected = some r → s.modes.mode = .anchor →
         u.flags.refLoss = { s.flags.refLoss with v := true, x := true } ∧
         ((s.monitor r.other).state = .qualified →
           u.selector = { s.selector with
             selected := some r.other, buildOut := b, buildPending := true, offered := none } ∧
           u.modes = { s.modes with
             grade := some (if s.straps.refClass r.other = some .classA then 7 else 6) } ∧
           u.ftu = s.ftu ∧ u.rail = s.rail ∧
           u.counters = { s.counters with refSwitches := s.counters.refSwitches + 1 }) ∧
         ((s.monitor r.other).state ≠ .qualified →
           u.selector = { s.selector with
             selected := none, buildOut := b, buildPending := waits, offered := none } ∧
           u.modes = { mode := .hold, grade := some 5, offsetRun := 0 } ∧
           u.rail = { s.rail with leadAbsentRun := 0 } ∧
           (let i := max (-32767) (min 32767 ((s.ftu.history + 128) / 256))
            u.ftu = { s.ftu with
              integral := i, frequency := i, holdAge := 0, settleRun := 0, excursionRun := 0 }) ∧
           u.counters = { s.counters with holdEntries := s.counters.holdEntries + 1 } ∧
           u.flags.holdEntry = { s.flags.holdEntry with v := true, x := true })) ∧
       u.tribs = s.tribs ∧ u.free = s.free ∧ u.maint = s.maint ∧ u.out = s.out ∧
       u.listen = s.listen ∧ u.rail = { s.rail with leadAbsentRun := u.rail.leadAbsentRun })

/-- R112: the qualified run and the flap mark at a boundary. -/
def Obligations.QualifiedRun : Prop :=
  ∀ (s : State) (ej : Bool) (r : RefId), s.running = true →
    ∃ u, exec (.officeBoundary ej) s = .next u ∧
      ((s.monitor r).state ≠ .qualified → u.monitor r = s.monitor r) ∧
      ((s.monitor r).state = .qualified →
        ((s.monitor r).qualRun < 4799999 →
          u.monitor r = { s.monitor r with qualRun := (s.monitor r).qualRun + 1 }) ∧
        ((s.monitor r).qualRun = 4799999 ∨ (s.monitor r).qualRun = 4800000 →
          u.monitor r = { s.monitor r with qualRun := 4800000, flap := false }))

/-! Station modes and grade (chapter 07) -/

/-- R122: the grade. -/
def Obligations.Grades : Prop :=
  ∀ (g : GainSet) (c : Option RefClass) (a : Nat),
    gradeOf .listen g c a = none ∧
    gradeOf .track .acquire c a = some 1 ∧ gradeOf .track .track c a = some 2 ∧
    gradeOf .anchor g (some .classA) a = some 7 ∧ gradeOf .anchor g (some .classB) a = some 6 ∧
    (a ≤ 899 → gradeOf .hold g c a = some 5) ∧
    (900 ≤ a → a ≤ 86399 → gradeOf .hold g c a = some 4) ∧
    gradeOf .hold g c 86400 = some 3 ∧
    ∀ m, m ≠ .listen → ∃ k, gradeOf m g c a = some k ∧ 1 ≤ k ∧ k ≤ 7

/-- R132: the offset run at a close in ANCHOR. -/
def Obligations.OffsetRun : Prop :=
  ∀ s : State, s.running = true → s.modes.mode = .anchor →
    ∃ u, exec .measurementClose s = .next u ∧
      (let counts := (∃ e : Int, u.rail.railError = some e ∧ 256 < e.natAbs) ∨
         (u.rail.railError = none ∧ s.rail.drivingLead = false)
       (counts → s.modes.offsetRun < 7999 → u.modes.offsetRun = s.modes.offsetRun + 1) ∧
       (counts → s.modes.offsetRun = 7999 →
         u.modes.offsetRun = 0 ∧ u.flags.offset = { s.flags.offset with v := true, x := true }) ∧
       (¬ counts → u.modes.offsetRun = 0) ∧
       (¬ (counts ∧ s.modes.offsetRun = 7999) → u.flags.offset = s.flags.offset))

/-- How mode, selection, grade and LISTEN procedure fit together is kept by every step (R114, R122,
R126, R138, R157, R163). That a withdrawn station's phase is RUNNING also after a join frame that ends in withdrawal
is read by inference (notes/assumptions/19.md): R163 does not name the phase there. -/
def Obligations.ModeLawKept : Prop :=
  ∀ s u : State, s.ModeLaw → step s = .next u → u.ModeLaw

/-! The shelf rail (chapter 08) -/

/-- R124, R137, R138: what a joined station that stays joined drives from a boundary; and a station whose
boundary leaves it in LISTEN begins no pulse, drives no LEAD and holds no driven grade, whatever mode it
was in. -/
def Obligations.BoundaryDrives : Prop :=
  (∀ (s : State) (ej : Bool), s.running = true → s.modes.mode ≠ .listen →
    s.listen.phase = .running → s.listen.withdrawn = false → s.listen.withdrawRequest = false →
    s.ftu.joinRequest = none →
    ∃ u, exec (.officeBoundary ej) s = .next u ∧
      u.modes = s.modes ∧ u.selector = s.selector ∧
      u.rail.drivenGrade = s.modes.grade ∧
      (u.rail.drivingLead = true ↔ s.rail.bestGrade ≤ s.modes.grade.getD 0) ∧
      u.rail.pulses.beat =
        some (s.ftu.crystal +
          (if u.ftu.officeIndex = 0 ∧ u.rail.drivingLead = true then 96 else 32)) ∧
      u.rail.pulses.lead =
        (if u.rail.drivingLead then some (s.ftu.crystal + 32) else s.rail.pulses.lead) ∧
      u.rail.pulses.grade = s.rail.pulses.grade ∧
      u.rail.caps.beat = { s.rail.caps.beat with firstFall := some (s.rail.caps.beat.firstFall.getD 0) } ∧
      u.rail.caps.lead =
        (if u.rail.drivingLead then
          { s.rail.caps.lead with firstFall := some (s.rail.caps.lead.firstFall.getD 0) }
        else s.rail.caps.lead)) ∧
  (∀ (s : State) (ej : Bool), s.running = true → s.ModeLaw →
    ∃ u, exec (.officeBoundary ej) s = .next u ∧
      (u.modes.mode = .listen →
        u.rail.pulses = s.rail.pulses ∧ u.rail.drivingLead = false ∧ u.rail.drivenGrade = none ∧
          u.rail.caps = Captures.blank))

/-- R139: the grade start, once in a window. A joined station begins its GRADE pulse of 64 × g ticks and
keeps g as the pulse grade; one that is not joined begins none. GRADE falls at the opening tick of its window where it
is read low there, whoever pulls it (R135, R141). A mark is broken from the start where BEAT is not read low at that
tick (R135, R146). -/
def Obligations.GradeStart : Prop :=
  ∀ s : State, s.running = true →
    (∀ g, s.rail.caps.gradeStart = some g → exec .gradeStart s = .next s) ∧
    (s.rail.caps.gradeStart = none → ∃ u, exec .gradeStart s = .next u ∧
      u = { s with rail := { s.rail with caps := u.rail.caps, pulses := u.rail.pulses } } ∧
      u.rail.caps.beat = s.rail.caps.beat ∧ u.rail.caps.lead = s.rail.caps.lead ∧
      (u.rail.caps.gradeStart.isSome = true →
        (u.rail.caps.markBroken = true ↔ s.lineLow .beat = false)) ∧
      (∀ f, s.rail.caps.beat.firstFall = some f → u.rail.caps.gradeStart = some f) ∧
      (s.rail.caps.beat.firstFall = none → s.modes.mode ≠ .listen →
        u.rail.caps.gradeStart = some 0) ∧
      (s.rail.caps.beat.firstFall = none → s.modes.mode = .listen → u = s) ∧
      (∀ k, s.modes.mode ≠ .listen → s.modes.grade = some k →
        u.rail.caps.pulseGrade = some k ∧
        u.rail.pulses = { s.rail.pulses with grade := some (s.ftu.crystal + 64 * k) } ∧
        (s.pins.grade ≠ .heldHigh → 1 ≤ k →
          u.rail.caps.grade.firstFall = u.rail.caps.gradeStart ∧ u.ownLow .grade = true)) ∧
      (s.modes.mode = .listen →
        u.rail.pulses = s.rail.pulses ∧ u.rail.caps.pulseGrade = s.rail.caps.pulseGrade) ∧
      ∀ low, low = (match s.pins.grade with
          | .pulledLow => true
          | .heldHigh => false
          | .released => u.ownLow .grade) →
        u.rail.caps.gradeStart.isSome = true →
        u.rail.caps.grade =
          { firstFall := if low then u.rail.caps.gradeStart else none
            lastRise := none, low := some low, sawLow := low })

/-- R135, R137: the end of a pulse releases its line, and changes nothing else: the pulse of every other line goes on
to the end it had. -/
def Obligations.PulseEnd : Prop :=
  ∀ (s : State) (line : RailLine), s.running = true →
    ∃ u, exec (.pulseEnd line) s = .next u ∧
      u.rail.pulses.get line = none ∧ (∀ l, l ≠ line → u.rail.pulses.get l = s.rail.pulses.get l) ∧
      u.ownLow line = false ∧ (∀ l, l ≠ line → u.ownLow l = s.ownLow l) ∧
      u = { s with rail := { s.rail with pulses := u.rail.pulses } }

/-- R135, R140, R141, R146, R158: a change of a line read within its window. Tick t has position t in the
LISTEN window and up to 2047, and t − L from there; GRADE is captured in the 512 ticks from the grade start, and
BEAT and LEAD within the width in force. The earliest fall is kept; a rise after it is the last rise, and one
before it, or at the very tick that the own-drive exception took as the fall, is none; BEAT rising within 80 ticks of
the grade start breaks the mark. A tick outside the window is not captured. That a low level at the tick of the first
fall itself has its rise a tick later is read by inference (notes/assumptions/21.md). -/
def Obligations.Capture : Prop :=
  ∀ (s : State) (line : RailLine) (t : Nat) (p : Int), s.running = true →
    p = (if s.rail.width = .listen ∨ t ≤ 2047 then (t : Int) else (t : Int) - s.ftu.length) →
    let c := s.rail.caps
    let inWindow :=
      (s.rail.width = .listen → s.rail.listenWindow = true ∧ t < s.ftu.length) ∧
      (s.rail.width ≠ .listen → -2048 ≤ p ∧ p ≤ 2047) ∧
      (line = .grade → ∃ g, c.gradeStart = some g ∧ g ≤ p ∧ p ≤ g + 511) ∧
      (line ≠ .grade → s.rail.width = .narrow → -256 ≤ p ∧ p ≤ 255)
    (inWindow →
      (∃ u, exec (.railLineCapture line .fall t) s = .next u ∧
        (u.rail.caps.get line).firstFall = some ((c.get line).firstFall.getD p) ∧
        (u.rail.caps.get line).lastRise = (c.get line).lastRise ∧
        (u.rail.caps.get line).low = some true ∧ u.rail.caps.markBroken = c.markBroken ∧
        (∀ l, l ≠ line → u.rail.caps.get l = c.get l) ∧
        u.rail.caps.gradeStart = c.gradeStart ∧ u.rail.caps.pulseGrade = c.pulseGrade ∧
        u = { s with rail := { s.rail with caps := u.rail.caps } }) ∧
      (∃ u, exec (.railLineCapture line .rise t) s = .next u ∧
        (u.rail.caps.get line).firstFall = (c.get line).firstFall ∧
        (u.rail.caps.get line).lastRise =
          (match (c.get line).firstFall with
           | none => (c.get line).lastRise
           | some f => if f < p then some p else (c.get line).lastRise) ∧
        (u.rail.caps.get line).low = some false ∧
        (u.rail.caps.markBroken = true ↔ c.markBroken = true ∨
          line = .beat ∧ ∃ g, c.gradeStart = some g ∧ g ≤ p ∧ p ≤ g + 80) ∧
        (∀ l, l ≠ line → u.rail.caps.get l = c.get l) ∧
        u.rail.caps.gradeStart = c.gradeStart ∧ u.rail.caps.pulseGrade = c.pulseGrade ∧
        u = { s with rail := { s.rail with caps := u.rail.caps } })) ∧
    (¬ inWindow → ∀ ch, exec (.railLineCapture line ch t) s = .next s)

/-- R142: the best grade of a GRADE window that showed a fall at f and a last rise at r, or was still low at
its end: the last of its 512 ticks, or the tick that cuts it. -/
def Obligations.BestGrade : Prop :=
  ∀ (c : Captures) (last f r g : Int), c.gradeStart = some g →
    (c.grade.firstFall = some f → c.grade.low = some false → c.grade.lastRise = some r →
      (c.bestGrade last : Int) = max 1 (min 7 ((r - f + 32) / 64))) ∧
    (c.grade.firstFall = some f → c.grade.low = some true → g + 511 ≤ last →
      (c.bestGrade last : Int) = max 1 (min 7 ((g + 512 - f + 32) / 64))) ∧
    (c.grade.firstFall = some f → c.grade.low = some true → last < g + 511 →
      (c.bestGrade last : Int) = max 1 (min 7 ((last + 1 - f + 32) / 64))) ∧
    (c.grade.firstFall = none → c.bestGrade last = 0) ∧
    ({ c with gradeStart := none }.bestGrade last = 0)

/-- R140 to R143: best grade, rail error and LEAD spread of a joined station's close, whose tick, 2047, alone cuts
the GRADE window, and the clearing of the captures for the next windows. The LEAD window ends at 255, narrow, and at
2047, wide. That a LEAD held high, where the own boundary is the first fall and no low and no rise follows, gives no
rail error and spread 0 is read by inference (notes/assumptions/21.md), and that the width is fixed in the close
itself is the model's choice (notes/assumptions/35.md). -/
def Obligations.CloseForms : Prop :=
  ∀ s : State, s.running = true → s.modes.mode ≠ .listen →
    ∃ u, exec .measurementClose s = .next u ∧
      u.rail.bestGrade = s.rail.caps.bestGrade 2047 ∧
      (∀ f r, s.rail.caps.lead.firstFall = some f → s.rail.caps.lead.low = some false →
        s.rail.caps.lead.lastRise = some r →
        u.rail.railError = some (max (-512) (min 512 (f + r - 32))) ∧ u.rail.leadSpread = r - f) ∧
      (∀ f last : Int, s.rail.caps.lead.firstFall = some f → s.rail.caps.lead.low = some true →
        s.rail.width = .narrow ∧ last = 255 ∨ s.rail.width = .wide ∧ last = 2047 →
        u.rail.railError = some (max (-512) (min 512 (f + (last + 1) - 32))) ∧
        u.rail.leadSpread = last + 1 - f) ∧
      (s.rail.caps.lead.low ≠ some true → s.rail.caps.lead.lastRise = none →
        u.rail.railError = none ∧ u.rail.leadSpread = 0) ∧
      (s.rail.caps.lead.firstFall = none → u.rail.railError = none ∧ u.rail.leadSpread = 0) ∧
      u.rail.caps = Captures.blank ∧
      (u.ftu.gain = .track → u.rail.width = .narrow) ∧
      (u.ftu.gain = .acquire → u.rail.width = .wide)

/-- R146 to R150: the multiframe marks at a close. First, the close of an index-7 frame of a joined station
with the window narrow: `shown` are the indices of the multiframe, a mark seen in this very frame among them;
candidate and run follow from them, then the relabel test, the relabel with its stamps and the pace that raises
RELABEL, or the backoff. Second, the other closes of a joined station, and those of a station in LISTEN. -/
def Obligations.Relabel : Prop :=
  (∀ (s : State) (cand : Option Nat) (run : Nat), s.running = true → s.modes.mode ≠ .listen →
    s.rail.width = .narrow → s.ftu.officeIndex = 7 → (∀ k ∈ s.rail.markSet, 1 ≤ k ∧ k ≤ 7) →
    (let seen := ∃ g, s.rail.caps.gradeStart = some g ∧ s.rail.caps.markBroken = false ∧ g + 80 ≤ 255
     let shown := fun k : Nat => k ∈ s.rail.markSet ∨ k = 7 ∧ seen
     (∃ k, s.rail.markCand = some k ∧ shown k ∧ cand = some k ∧ run = min 4 (s.rail.markRun + 1)) ∨
     ((∀ k, s.rail.markCand = some k → ¬ shown k) ∧
       ∃ k, shown k ∧ (∀ j, shown j → k ≤ j) ∧ cand = some k ∧ run = 1) ∨
     ((∀ k, ¬ shown k) ∧ cand = none ∧ run = 0)) →
    ∃ u, exec .measurementClose s = .next u ∧
      (let passes := ∃ k, cand = some k ∧
         if s.rail.drivingLead = true then 4 ≤ run ∧ (k ≤ 3 ∨ k = 4 ∧ s.rail.backoff = 0) else 2 ≤ run
       u.rail.markSet = [] ∧
       (passes →
         (∀ k, cand = some k → u.ftu.indexRequest = some (.relabel (BitVec.ofNat 3 k))) ∧
         u.counters.relabels = s.counters.relabels + 1 ∧
         u.rail.backoff = 8 * (s.straps.stn.val + 1) ∧
         u.rail.markCand = none ∧ u.rail.markRun = 0 ∧
         (s.rail.relabelStamps.length ≤ 7 →
           u.rail.relabelStamps = s.rail.relabelStamps ++ [s.stamp]) ∧
         (∀ a rest, s.rail.relabelStamps = a :: rest → rest.length = 7 →
           u.rail.relabelStamps = rest ++ [s.stamp]) ∧
         (∀ a rest, u.rail.relabelStamps = a :: rest → rest.length = 7 →
           u.flags.relabel =
             if 8000 * ((s.stamp.seconds - a.seconds).toNat : Int) + (s.stamp.frame - a.frame : Int) < 8000
             then { s.flags.relabel with v := true, x := true } else s.flags.relabel) ∧
         (u.rail.relabelStamps.length < 8 → u.flags.relabel = s.flags.relabel)) ∧
       (¬ passes →
         u.ftu.indexRequest = s.ftu.indexRequest ∧ u.counters.relabels = s.counters.relabels ∧
         u.rail.markCand = cand ∧ u.rail.markRun = run ∧
         u.rail.backoff = s.rail.backoff - 1 ∧ u.rail.relabelStamps = s.rail.relabelStamps ∧
         u.flags.relabel = s.flags.relabel))) ∧
  ∀ s : State, s.running = true →
    ∃ u, exec .measurementClose s = .next u ∧
      (let seen := ∃ g, s.rail.caps.gradeStart = some g ∧ s.rail.caps.markBroken = false ∧ g + 80 ≤ 255
       let counted := if s.ftu.officeIndex = 7 then s.rail.backoff - 1 else s.rail.backoff
       (s.modes.mode ≠ .listen → s.rail.width = .narrow → s.ftu.officeIndex ≠ 7 →
         (∀ k ∈ s.rail.markSet, 1 ≤ k ∧ k ≤ 7) →
         (∀ k, k ∈ u.rail.markSet ↔
           k ∈ s.rail.markSet ∨ k = s.ftu.officeIndex.toNat ∧ s.ftu.officeIndex ≠ 0 ∧ seen) ∧
         u.rail.markCand = s.rail.markCand ∧ u.rail.markRun = s.rail.markRun ∧
         u.rail.backoff = s.rail.backoff) ∧
       (s.modes.mode ≠ .listen → s.rail.width ≠ .narrow →
         u.rail.markSet = [] ∧ u.rail.markCand = none ∧ u.rail.markRun = 0 ∧
         u.rail.backoff = counted) ∧
       (s.modes.mode = .listen →
         u.rail.markSet = s.rail.markSet ∧ u.rail.markCand = s.rail.markCand ∧
         u.rail.markRun = s.rail.markRun ∧ u.rail.backoff = counted) ∧
       (s.modes.mode = .listen ∨ s.rail.width ≠ .narrow ∨ s.ftu.officeIndex ≠ 7 →
         u.counters.relabels = s.counters.relabels ∧ u.rail.relabelStamps = s.rail.relabelStamps ∧
         u.flags.relabel = s.flags.relabel))

/-- The ranges of the rail interface's fields are kept by every step (R136, R142 to R144, R147, R149,
R150). -/
def Obligations.RailRangesKept : Prop :=
  ∀ s u : State, s.rail.Ranges → step s = .next u → u.rail.Ranges

/-! Joining and withdrawal (chapter 09) -/

/-- R163: a rising edge of EJ, which is not taken as a withdrawal before the next boundary. That a pending
join goes back to RUNNING without its offset is read by inference (notes/assumptions/19.md). -/
def Obligations.EjRise : Prop :=
  ∀ s : State, s.running = true →
    (s.listen.phase ≠ .joinPending →
      exec .ejRisingEdge s = .next { s with
        listen := { s.listen with withdrawRequest := true }
        pins := { s.pins with ej := true } }) ∧
    (s.listen.phase = .joinPending →
      exec .ejRisingEdge s = .next { s with
        listen := { s.listen with withdrawRequest := true, phase := .running, offset := none }
        ftu := { s.ftu with joinRequest := none }
        pins := { s.pins with ej := true } })

/-- R87, R116, R130, R144, R146, R163: a withdrawal request at a boundary, for a joined station, at the end of a join
frame, and in LISTEN. That the phase is RUNNING after the second is read by inference
(notes/assumptions/19.md). -/
def Obligations.WithdrawalTaken : Prop :=
  ∀ (s : State) (ej : Bool), s.running = true → s.ModeLaw → s.listen.withdrawRequest = true →
    ∃ u, exec (.officeBoundary ej) s = .next u ∧
      u.modes.mode = .listen ∧ u.modes.grade = none ∧
      u.listen.withdrawn = true ∧ u.listen.withdrawRequest = false ∧ u.listen.phase = .running ∧
      u.selector.selected = none ∧ u.rail.drivingLead = false ∧ u.rail.drivenGrade = none ∧
      u.rail.pulses = s.rail.pulses ∧
      u.ftu.history = s.ftu.history ∧ u.ftu.gain = s.ftu.gain ∧ u.ftu.integral = s.ftu.integral ∧
      u.counters = s.counters ∧
      (s.modes.mode ≠ .listen →
        u.ftu.frequency = s.ftu.integral ∧ u.selector.offered = none ∧
        u.selector.buildPending = false ∧ u.selector.buildOut = s.selector.buildOut ∧
        u.modes.offsetRun = 0 ∧ u.ftu.settleRun = 0 ∧ u.ftu.excursionRun = 0 ∧
        u.rail.leadAbsentRun = 0 ∧ u.rail.markSet = [] ∧ u.rail.markCand = none ∧ u.rail.markRun = 0)

/-- R164: withdrawn with EJ low, and no request: the procedure starts afresh. With EJ high the station
stays withdrawn. -/
def Obligations.WithdrawalEnds : Prop :=
  ∀ s : State, s.running = true → s.ModeLaw → s.listen.withdrawn = true →
    s.listen.withdrawRequest = false →
    (∃ u, exec (.officeBoundary false) s = .next u ∧
      u.listen = { withdrawn := false, withdrawRequest := false, phase := .running, frameCount := 0,
                   runMidpoint := none, runCount := 0, silentRun := 0, latestMidpoint := none,
                   markIndex := none, markCount := 0, offset := none,
                   ejSampled := s.listen.ejSampled } ∧
      u.rail.listenWindow = true ∧ u.rail.held = none) ∧
    (∃ u, exec (.officeBoundary true) s = .next u ∧ u.listen = s.listen)

/-- R158, R159: what a held LISTEN window reads as, the counts of the LISTEN procedure for one window, what
the counts decide, the close that takes the window held, or none, and the boundary that hands the window of the
frame it ends to the next close (unless the station starts afresh there, as WithdrawalEnds says) and opens the
next. That the frame count, the run count and the silent run stay at the tops of their ranges is read by inference
(notes/assumptions/22.md; R159 says it of the mark count only). -/
def Obligations.ListenProcedure : Prop :=
  (∀ h : HeldWindow,
    let w := h.reading
    let lead := h.caps.lead
    w.index = h.index ∧
    (lead.firstFall = none → w.midpoint = none) ∧
    (∀ f r : Int, lead.firstFall = some f →
      (lead.low = some true ∧ r = h.length ∨ lead.low = some false ∧ lead.lastRise = some r) →
      ∃ m : Nat, w.midpoint = some m ∧ (m : Int) = max 0 ((f + r - 32) / 2)) ∧
    (w.mark = true ↔
      ∃ g, h.caps.gradeStart = some g ∧ h.caps.markBroken = false ∧ g + 80 ≤ (h.length : Int) - 1) ∧
    (w.silent = true ↔ h.caps.beat.sawLow = false ∧ h.caps.lead.sawLow = false)) ∧
  (∀ (x : Listen) (w : WindowReading),
    x.frameCount ≤ 1024 → x.runCount ≤ 16 → x.silentRun ≤ 16 → x.markCount ≤ 2 →
    (x.count w).frameCount = min 1024 (x.frameCount + 1) ∧
    (w.midpoint = none →
      (x.count w).runMidpoint = none ∧ (x.count w).runCount = 0 ∧
        (x.count w).latestMidpoint = x.latestMidpoint) ∧
    (∀ m, w.midpoint = some m →
      (x.count w).latestMidpoint = some m ∧
      (∀ r, x.runMidpoint = some r → m ≤ r + 8 → r ≤ m + 8 →
        (x.count w).runMidpoint = some r ∧ (x.count w).runCount = min 16 (x.runCount + 1)) ∧
      ((x.runMidpoint = none ∨ ∃ r, x.runMidpoint = some r ∧ (r + 8 < m ∨ m + 8 < r)) →
        (x.count w).runMidpoint = some m ∧ (x.count w).runCount = 1)) ∧
    (x.count w).silentRun = (if w.silent then min 16 (x.silentRun + 1) else 0) ∧
    (w.mark = true →
      (x.count w).markIndex = some w.index ∧
      (x.count w).markCount =
        if x.markIndex = some w.index then min 2 (x.markCount + 1) else 1) ∧
    (w.mark = false →
      (x.markIndex = some w.index →
        (x.count w).markIndex = none ∧ (x.count w).markCount = 0) ∧
      (x.markIndex ≠ some w.index →
        (x.count w).markIndex = x.markIndex ∧ (x.count w).markCount = x.markCount))) ∧
  (∀ x : Listen,
    (x.withdrawRequest = true → x.decision = none) ∧
    (x.withdrawRequest = false →
      (16 ≤ x.runCount → x.decision = some (x.latestMidpoint.getD 0, false)) ∧
      (x.runCount < 16 → 16 ≤ x.silentRun → x.decision = some (0, false)) ∧
      (x.runCount < 16 → x.silentRun < 16 → 1024 ≤ x.frameCount →
        x.decision = some (x.latestMidpoint.getD 0, true)) ∧
      (x.runCount < 16 → x.silentRun < 16 → x.frameCount < 1024 → x.decision = none))) ∧
  (∀ (s : State) (h : HeldWindow), s.running = true → s.modes.mode = .listen →
    s.listen.phase = .running → s.listen.withdrawn = false → s.rail.held = some h →
    ∃ u, exec .measurementClose s = .next u ∧
      let x := s.listen.count h.reading
      u.rail.bestGrade = h.caps.bestGrade ((h.length : Int) - 1) ∧ u.rail.held = none ∧
      (x.decision = none → u.listen = x ∧ u.ftu.joinRequest = s.ftu.joinRequest ∧
        u.flags.offset = s.flags.offset) ∧
      (∀ o forced, x.decision = some (o, forced) →
        u.listen = { x with phase := .joinPending, offset := some o } ∧
        u.ftu.joinRequest = some o ∧
        u.flags.offset = if forced then { s.flags.offset with v := true, x := true } else s.flags.offset)) ∧
  (∀ s : State, s.running = true → s.modes.mode = .listen →
    ∃ u, exec .measurementClose s = .next u ∧
      u.rail.held = none ∧ (s.rail.held = none → u.rail.bestGrade = 0) ∧
      (∀ h, s.rail.held = some h → u.rail.bestGrade = h.caps.bestGrade ((h.length : Int) - 1)) ∧
      (s.rail.held = none ∨ s.listen.withdrawn = true ∨ s.listen.phase ≠ .running →
        u.listen = s.listen ∧ u.ftu.joinRequest = s.ftu.joinRequest ∧ u.flags.offset = s.flags.offset)) ∧
  (∀ (s : State) (ej : Bool), s.running = true →
    ∃ u, exec (.officeBoundary ej) s = .next u ∧
      (s.listen.withdrawn = false ∨ ej = true ∨ s.listen.withdrawRequest = true ∨ s.listen.phase = .joinFrame →
        (s.rail.listenWindow = true →
          u.rail.held = some { caps := s.rail.caps, length := s.ftu.length, index := s.ftu.officeIndex }) ∧
        (s.rail.listenWindow = false → u.rail.held = none)) ∧
      (s.modes.mode = .listen → s.listen.withdrawRequest = false → s.listen.phase ≠ .joinFrame →
        s.listen.withdrawn = false ∨ ej = true → s.ftu.joinRequest = none →
        u.modes.mode = .listen ∧ u.listen = s.listen ∧ u.rail.width = .listen ∧ u.rail.listenWindow = true ∧
          u.rail.caps = Captures.blank))

/-- R86, R140, R158 to R160: a pending join begins its frame at the next boundary: 4096 + o ticks, with no LISTEN
window. At its close the set request is made, if the mark count is 2, and the windows of the first joined frame open,
wide. That they open in the close itself is the model's choice (notes/assumptions/35.md). -/
def Obligations.JoinFrame : Prop :=
  (∀ (s : State) (ej : Bool) (o : Nat), s.running = true → s.ModeLaw →
    s.ftu.joinRequest = some o →
    ∃ u, exec (.officeBoundary ej) s = .next u ∧
      u.listen = { s.listen with phase := .joinFrame } ∧
      u.ftu.length = 4096 + o ∧ u.ftu.fraction = s.ftu.fraction ∧ u.ftu.joinRequest = none ∧
      u.modes.mode = .listen ∧ u.rail.listenWindow = false ∧ u.rail.pulses = s.rail.pulses) ∧
  (∀ s : State, s.running = true → s.modes.mode = .listen → s.listen.phase = .joinFrame →
    ∃ u, exec .measurementClose s = .next u ∧
      (∀ k, s.listen.markCount = 2 → s.listen.markIndex = some k →
        u.ftu.indexRequest = some (.setTo (s.ftu.officeIndex + 1 - k))) ∧
      (s.listen.markCount < 2 → u.ftu.indexRequest = s.ftu.indexRequest) ∧
      u.listen = s.listen ∧ u.rail.width = .wide ∧ u.rail.caps = Captures.blank)

/-- R88, R114, R117, R125, R137, R138, R141, R161: the join at the boundary that ends the join frame, with the pulses
that begin there. The windows stay those fixed at the join frame's close, wide ones (JoinFrame), with what they have
captured. That the mark index becomes absent with its count is read by inference (notes/assumptions/41.md). -/
def Obligations.Join : Prop :=
  ∀ (s : State) (ej : Bool), s.running = true → s.ModeLaw → s.listen.phase = .joinFrame →
    s.listen.withdrawRequest = false →
    ∃ u, exec (.officeBoundary ej) s = .next u ∧
      u.ftu.gain = .acquire ∧ u.ftu.settleRun = 0 ∧ u.ftu.excursionRun = 0 ∧
      u.modes.offsetRun = 0 ∧ u.counters = s.counters ∧
      u.listen.phase = .running ∧ u.listen.frameCount = 0 ∧ u.listen.runCount = 0 ∧
      u.listen.silentRun = 0 ∧ u.listen.markCount = 0 ∧ u.listen.offset = none ∧
      u.listen.runMidpoint = none ∧ u.listen.latestMidpoint = none ∧ u.listen.markIndex = none ∧
      u.rail.markSet = [] ∧ u.rail.markCand = none ∧ u.rail.markRun = 0 ∧
      u.rail.drivenGrade = u.modes.grade ∧
      u.rail.pulses.beat =
        some (s.ftu.crystal +
          (if u.ftu.officeIndex = 0 ∧ u.rail.drivingLead = true then 96 else 32)) ∧
      (u.rail.drivingLead = true ↔ s.rail.bestGrade ≤ u.modes.grade.getD 0) ∧
      u.rail.pulses.lead =
        (if u.rail.drivingLead then some (s.ftu.crystal + 32) else s.rail.pulses.lead) ∧
      u.rail.pulses.grade = s.rail.pulses.grade ∧
      u.rail.width = s.rail.width ∧ u.rail.listenWindow = false ∧
      u.rail.caps.beat = { s.rail.caps.beat with firstFall := some (s.rail.caps.beat.firstFall.getD 0) } ∧
      u.rail.caps.lead =
        (if u.rail.drivingLead then
          { s.rail.caps.lead with firstFall := some (s.rail.caps.lead.firstFall.getD 0) }
        else s.rail.caps.lead) ∧
      u.rail.caps.gradeStart = s.rail.caps.gradeStart ∧
      ((s.monitor .refA).state ≠ .qualified → (s.monitor .refB).state ≠ .qualified →
        u.modes.mode = .track ∧ u.modes.grade = some 1 ∧ u.selector = s.selector) ∧
      ((s.monitor .refA).state = .qualified →
        ((s.monitor .refB).state ≠ .qualified ∨
          ¬ (s.straps.refClass .refB = some .classA ∧ s.straps.refClass .refA = some .classB)) →
        u.modes.mode = .anchor ∧
        u.modes.grade = some (if s.straps.refClass .refA = some .classA then 7 else 6) ∧
        u.selector = { s.selector with selected := some .refA, buildPending := true, offered := none }) ∧
      ((s.monitor .refB).state = .qualified →
        ((s.monitor .refA).state ≠ .qualified ∨
          (s.straps.refClass .refB = some .classA ∧ s.straps.refClass .refA = some .classB)) →
        u.modes.mode = .anchor ∧
        u.modes.grade = some (if s.straps.refClass .refB = some .classA then 7 else 6) ∧
        u.selector = { s.selector with selected := some .refB, buildPending := true, offered := none })

/-! Maintenance stream, flags and output lines (chapters 03 and 10) -/

/-- R168 to R170, R172: page counter, page sequence, the page start with its snapshots, the header's octets, and
the octets of every other frame of the page. Of a field whose block does its own work at the same boundary the
statement says that it is read before or after that work (R169, R78; the 32 octets as a snapshot, those of R120, R134
and R153 among them: notes/assumptions/40.md); so is SLIP, where a repeat slip starts (R50) at a boundary
that is a page start (R175). A field longer than the rest of its frame is read whole and carried. -/
def Obligations.PageBoundary : Prop :=
  (∀ (s : State) (ej : Bool), s.running = true →
    let starts := ∃ t, s.enabled t = true ∧ (s.trib t).rx.align = .aligned ∧
      (s.trib t).storeState = .normal ∧ (s.trib t).store.queue = []
    ∃ u, exec (.officeBoundary ej) s = .next u ∧
      u.maint.pageCounter = s.maint.pageCounter + 1 ∧
      (s.maint.pageCounter ≠ 127 →
        u.maint.pageSeq = s.maint.pageSeq ∧ u.maint.header = s.maint.header ∧
        (∀ f, (u.flags.get f).s = (s.flags.get f).s) ∧
        (¬ starts → u.flags = s.flags) ∧
        (starts → u.flags = { s.flags with slip := { s.flags.slip with v := true, x := true } })) ∧
      (s.maint.pageCounter = 127 →
        u.maint.pageSeq = s.maint.pageSeq + 1 ∧ u.maint.header.length = 32 ∧
        u.maint.octetHi = s.maint.pageSeq + 1 ∧
        u.maint.octetLo = BitVec.ofNat 8 s.straps.stn.val ∧
        (∀ f, f ≠ .slip ∨ ¬ starts → (u.flags.get f).v = (s.flags.get f).v ∧
          (u.flags.get f).s = (s.flags.get f).v ∧ (u.flags.get f).x = false) ∧
        (starts → u.flags.slip = { v := true, s := true, x := false } ∨
          u.flags.slip = { v := true, s := s.flags.slip.v, x := true }))) ∧
  (∀ (s : State) (ej : Bool), s.running = true → s.maint.pageCounter = 127 →
    ∃ u, exec (.officeBoundary ej) s = .next u ∧
      ∃ mode ∈ [s.modes.mode, u.modes.mode], ∃ grade ∈ [s.modes.grade, u.modes.grade],
      ∃ lead ∈ [s.rail.drivingLead, u.rail.drivingLead],
      ∃ out ∈ [s.listen.withdrawn, u.listen.withdrawn], ∃ width ∈ [s.rail.width, u.rail.width],
      ∃ gain ∈ [s.ftu.gain, u.ftu.gain], ∃ sel ∈ [s.selector.selected, u.selector.selected],
      ∃ a ∈ [s.monA, u.monA], ∃ b ∈ [s.monB, u.monB], ∃ free ∈ [s.free, u.free],
      ∃ shared ∈ [s.sharedInUse, u.sharedInUse],
        let monitor := fun m : Monitor =>
          0#5 ++ BitVec.ofBool m.flap ++
            (match m.state with | .absent => 0#2 | .down => 1#2 | .qualifying => 2#2 | .qualified => 3#2)
        let f := u.flags
        u.maint.header =
          [s.maint.pageSeq + 1, BitVec.ofNat 8 s.straps.stn.val,
            (match mode with | .listen => 0#2 | .track => 1#2 | .anchor => 2#2 | .hold => 3#2) ++
              u.ftu.officeIndex ++ BitVec.ofBool lead ++ BitVec.ofBool out ++ 0#1,
            BitVec.ofNat 8 (grade.getD 0), BitVec.ofNat 8 u.rail.bestGrade,
            0#5 ++ (match width with | .listen => 0#2 | .narrow => 1#2 | .wide => 2#2) ++
              (match gain with | .acquire => 0#1 | .track => 1#1),
            (match sel with | none => 0#8 | some .refA => 1#8 | some .refB => 2#8),
            monitor a, monitor b] ++
          octets16 (BitVec.ofInt 16 u.ftu.integral) ++
          octets16 (BitVec.ofInt 16 ((u.ftu.history + 128) / 256)) ++
          octets16 (BitVec.ofInt 16 (u.ftu.lastError.getD (-32768))) ++
          octets16 (BitVec.ofInt 16 u.selector.buildOut) ++
          octets16 (BitVec.ofInt 16 u.rail.leadSpread) ++
          octets24 (BitVec.ofNat 24 u.ftu.holdAge) ++ octets32 u.ftu.seconds ++
          [BitVec.ofNat 8 free, BitVec.ofNat 8 shared] ++
          octets16 (0#4 ++ BitVec.ofBool f.relabel.s ++ BitVec.ofBool f.range.s ++ BitVec.ofBool f.flap.s ++
            BitVec.ofBool f.offset.s ++ BitVec.ofBool f.leadLost.s ++ BitVec.ofBool f.holdEntry.s ++
            BitVec.ofBool f.refLoss.s ++ BitVec.ofBool f.squeeze.s ++ BitVec.ofBool f.slip.s ++
            BitVec.ofBool f.alignLoss.s ++ BitVec.ofBool f.dark.s ++ BitVec.ofBool f.restart.s) ++
          octets16 u.counters.refSwitches) ∧
  ∀ (s : State) (ej : Bool) (p : Nat) (t : TribId), s.running = true →
    p = (s.maint.pageCounter + 1).toNat → 1 ≤ p →
    (p ≤ 111 → t.val = (p - 16) / 6) → (112 ≤ p → t.val = s.maint.pageSeq.toNat % 16) →
    ∃ u, exec (.officeBoundary ej) s = .next u ∧ ∃ x ∈ [s.trib t, u.trib t],
      let y := x.record
      let sends := fun l : List Octet =>
        [u.maint.octetHi, u.maint.octetLo] ++ u.maint.carry = l
      let held := fun n : Nat => s.maint.carry.getD n 0
      let slip := fun m : Option SlipMark =>
        match m with
        | none => List.replicate 7 (0 : Octet)
        | some m =>
          (match m.kind with | .repeated => 1#8 | .delete => 2#8 | .own => 3#8 | .evicted => 4#8) ::
            (octets32 m.stamp.seconds ++ octets16 (BitVec.ofNat 16 m.stamp.frame))
      let detail := match y.detail with
        | none => List.replicate 4 (0 : Octet)
        | some d =>
          [match d.kind with | .repeated => 1#8 | .delete => 2#8 | .own => 3#8 | .evicted => 4#8,
            BitVec.ofNat 8 d.frames, BitVec.ofNat 8 d.queueBefore, BitVec.ofNat 8 d.sharedBefore]
      (p ≤ 15 → sends [s.maint.header.getD (2 * p) 0, s.maint.header.getD (2 * p + 1) 0]) ∧
      (16 ≤ p → p ≤ 111 →
        ((p - 16) % 6 = 0 → sends
          [BitVec.ofBool (s.enabled t) ++ BitVec.ofNat 2 (s.classOf t).val ++ 0#1 ++
            (match x.rx.align with | .dark => 0#2 | .search => 1#2 | .verify => 2#2 | .aligned => 3#2) ++
            (match x.storeState with | .idle => 0#2 | .prime => 1#2 | .normal => 2#2 | .refill => 3#2),
            BitVec.ofNat 8 x.store.queue.length]) ∧
        ((p - 16) % 6 = 1 → sends [BitVec.ofNat 8 y.low, BitVec.ofNat 8 y.high]) ∧
        ((p - 16) % 6 = 2 → sends (octets16 y.repeatEvents)) ∧
        ((p - 16) % 6 = 3 → sends (octets16 y.deleteEvents)) ∧
        ((p - 16) % 6 = 4 → sends (octets16 y.squeezes)) ∧
        ((p - 16) % 6 = 5 → sends (octets16 y.repeatedFrames))) ∧
      (p = 112 → sends (BitVec.ofNat 8 t.val :: slip y.firstSlip)) ∧
      (p = 116 → sends (slip y.lastSlip)) ∧
      (p = 113 ∨ p = 114 ∨ p = 115 ∨ p = 117 ∨ p = 118 ∨ p = 120 →
        sends ([held 0, held 1] ++ s.maint.carry.drop 2)) ∧
      (p = 119 → sends (held 0 :: detail)) ∧
      (p = 121 → sends (held 0 :: octets16 y.deletedFrames)) ∧
      (p = 122 → sends (held 0 :: octets16 y.alignLosses)) ∧
      (p = 123 → sends (held 0 :: octets16 y.darkEntries)) ∧
      (p = 124 → sends (held 0 :: octets16 y.evictionsCaused)) ∧
      (p = 125 → sends [held 0, BitVec.ofNat 8 x.store.holdings]) ∧
      (p = 126 → sends [BitVec.ofNat 8 y.currentRun, x.rx.lastSync]) ∧
      (p = 127 → sends
        [if s.maint.pageSeq.toNat % 3 = 0 then s.counters.holdEntries.setWidth 8
          else if s.maint.pageSeq.toNat % 3 = 1 then s.counters.relabels.setWidth 8
          else s.counters.leadLost.setWidth 8, 0xA5])

/-- R173: an acknowledgement clears V where S is 1 and X is 0, and touches nothing else but its own
filter. -/
def Obligations.Acknowledge : Prop :=
  ∀ s : State, s.running = true →
    ∃ u, exec .acknowledgement s = .next u ∧
      (∀ f, (u.flags.get f).s = (s.flags.get f).s ∧ (u.flags.get f).x = (s.flags.get f).x ∧
        ((s.flags.get f).s = true ∧ (s.flags.get f).x = false → (u.flags.get f).v = false) ∧
        ((s.flags.get f).s = false ∨ (s.flags.get f).x = true →
          (u.flags.get f).v = (s.flags.get f).v)) ∧
      u = { s with
        flags := u.flags
        maint := { s.maint with makArmed := false, makHigh := u.maint.makHigh } }

/-- R174: ALM is low exactly when some flag is set: as computed, after the assertion and after the
release, and a page start does not move it. -/
def Obligations.AlarmLine : Prop :=
  (∀ s : State, s.alm = false ↔ ∃ f, (s.flags.get f).v = true) ∧
  (∀ s u : State, exec .resetAssertion s = .next u → u.alm = true) ∧
  (∀ (s u : State) (p : Straps) (ej : Bool), s.running = false →
    exec (.resetRelease p ej) s = .next u → u.alm = false) ∧
  (∀ s : State, s.pageStart.alm = s.alm)

/-- A raised-since mark stands only on a set flag; every step keeps that (R171 to R173). -/
def Obligations.RaisedAreSetKept : Prop :=
  ∀ s u : State, s.flags.RaisedAreSet → step s = .next u → u.flags.RaisedAreSet

/-- R58 to R60, R167: the output lines at the beginning of office bit k and eight ticks later, in the gap of a join
frame, and at the boundary, which drives those of bit 0 itself (the model's choice, notes/assumptions/37.md; at the
release: ResetReleaseStarts). -/
def Obligations.OfficeBit : Prop :=
  (∀ (s : State) (ej : Bool), s.running = true →
    ∃ u, exec (.officeBoundary ej) s = .next u ∧
      (∀ t : TribId, u.out.oda[t] = (u.trib t).outFrame.getLsbD 255) ∧
      u.out.ock = false ∧ u.out.ofp = true ∧ u.out.msc = false ∧
      u.out.mso = u.maint.octetHi.getLsbD 7 ∧ (u.out.msf = true ↔ u.maint.pageCounter = 0)) ∧
  ∀ (s : State) (half : Bool), s.running = true →
    (∀ k, k ≤ 255 → ∃ u, exec (.officeBit k half) s = .next u ∧ u = { s with out := u.out } ∧
      (∀ t : TribId, u.out.oda[t] = (s.trib t).outFrame.getLsbD (255 - k)) ∧
      u.out.ock = half ∧
      (u.out.ofp = true ↔ k = 0 ∨ (s.ftu.officeIndex = 0 ∧ k ≤ 7)) ∧
      (u.out.msc = true ↔ 8 ≤ k % 16) ∧
      (k < 128 → u.out.mso = s.maint.octetHi.getLsbD (7 - k / 16)) ∧
      (128 ≤ k → u.out.mso = s.maint.octetLo.getLsbD (15 - k / 16)) ∧
      (u.out.msf = true ↔ s.maint.pageCounter = 0 ∧ k ≤ 15)) ∧
    (s.listen.phase = .joinFrame →
      ∃ u, exec (.officeBit 256 false) s = .next u ∧ u = { s with out := u.out } ∧
        (∀ t : TribId, u.out.oda[t] = true) ∧ u.out.ock = false ∧ u.out.ofp = false ∧
        u.out.msc = true ∧ u.out.mso = s.maint.octetLo.getLsbD 0)

/-! The tick (notes/assumptions/2.md) -/

/-- A tick that finds the queue empty: the tick counts advance, the timers count down, the filters take the inputs
of the tick, i, and the events found come onto the queue: boundary, close and office bits (R58, R80), expired dark
timers and, bit by bit, line-clock edges (R3, R4), accepted and missing edges (R104, R107), acknowledgement (R173),
a rise of EJ (R163), ends of pulses (R137), and changes of the rail lines within their windows (R135, R141), BEAT's
first fall with the grade start (R139). Each event comes once (GRADE_START may come again with the boundary), those
of the rail before the close of tick 2047 (R140), and nothing else of the state changes. Then: the rail lines read
at the tick of a boundary; the tick at which RSTn reads low; and the ticks in reset, the last of them the release
(R81, R154 to R156).
The model's choices: that a tick is what a step does on an empty queue, and the script of inputs
(notes/assumptions/2.md, 4.md); that GRADE_START comes directly after every boundary, also where it changes nothing
(3.md, 5.md); that at a boundary's tick no line is read before the boundary but a peer's fall of BEAT (R151), and all
three are read once it is taken, read by inference (27.md); that no OFFICE_BIT is put on the queue for bit 0 (37.md);
and that the edges listed at the release's tick come before or after it (38.md), and that the tick of the release
samples no filter (39.md). -/
def Obligations.TickFindsEvents : Prop :=
  let edgeBit := fun (t : TribId) (c : Instr) =>
    match c with
    | .lineClockEdge v b | .leaveDark v b | .candidate v b | .verifyCheck v b | .syncOctetCheck v b
    | .frameCompletion v b => if v = t then some b else none
    | _ => none
  let bits := fun (i : TickInput) (t : TribId) => (i.edges.filter fun e => e.1 = t).map fun e => e.2
  let reads := fun v u : State =>
    (∀ line,
      (v.linePosition line v.ftu.tick = none →
        u.rail.caps.get line = v.rail.caps.get line ∧
        ∀ ch t, Instr.railLineCapture line ch t ∉ u.pending) ∧
      (v.linePosition line v.ftu.tick ≠ none →
        u.rail.caps.get line = { v.rail.caps.get line with
          low := some (v.lineLow line)
          sawLow := (v.rail.caps.get line).sawLow || v.lineLow line } ∧
        ∀ ch t, Instr.railLineCapture line ch t ∈ u.pending ↔
          t = v.ftu.tick ∧ (v.rail.caps.get line).low = some (!v.lineLow line) ∧
            (ch = .fall ↔ v.lineLow line = true))) ∧
    u.rail.caps.gradeStart = v.rail.caps.gradeStart ∧ u.rail.caps.pulseGrade = v.rail.caps.pulseGrade ∧
    u.rail.caps.markBroken = v.rail.caps.markBroken ∧
    (Instr.gradeStart ∈ u.pending ↔ v.rail.caps.gradeStart = none ∧
      (v.rail.caps.beat.firstFall.isSome = true ∨
        Instr.railLineCapture .beat .fall v.ftu.tick ∈ u.pending))
  let input := fun (s : State) (i : TickInput) =>
    s.inputs.head? = some i ∨ s.inputs = [] ∧ i = { pins := s.pins, edges := [] }
  (∀ (s : State) (i : TickInput), s.pending = [] → s.railDue = false → s.running = true →
    i.pins.rstn = true → input s i →
    ∃ u, step s = .next u ∧
      u = { s with
        pins := i.pins
        ftu := { s.ftu with crystal := s.ftu.crystal + 1, tick := s.ftu.tick + 1 }
        tribs := u.tribs, monA := u.monA, monB := u.monB
        rail := { s.rail with caps := u.rail.caps }
        listen := { s.listen with ejSampled := true }
        maint := { s.maint with
          makArmed := s.maint.makArmed || !i.pins.mak
          makHigh :=
            if i.pins.mak then (if s.maint.makArmed then s.maint.makHigh + 1 else s.maint.makHigh)
            else 0 }
        pending := u.pending, inputs := s.inputs.tail, choiceSeq := s.choiceSeq + 1 } ∧
      (s.ftu.length ≤ s.ftu.tick + 1 →
        (∃ (ej : Bool) (l r : List Instr), u.pending = l ++ .officeBoundary ej :: .gradeStart :: r ∧
          (∀ e, Instr.officeBoundary e ∉ l ++ r) ∧
          (i.pins.ej = true → ej = true) ∧ (s.pins.ej = false → i.pins.ej = false → ej = false)) ∧
        Instr.measurementClose ∉ u.pending ∧ (∀ k half, Instr.officeBit k half ∉ u.pending) ∧
        (u.rail.caps = s.rail.caps ∧ (∀ line ch t, Instr.railLineCapture line ch t ∉ u.pending) ∨
          u.rail.caps = { s.rail.caps with
            beat := { s.rail.caps.beat with low := some true, sawLow := true } } ∧
          s.rail.caps.beat.low = some false ∧ u.lineLow .beat = true ∧
          (∀ line ch t, Instr.railLineCapture line ch t ∈ u.pending ↔
            line = .beat ∧ ch = .fall ∧ t = s.ftu.tick + 1))) ∧
      (s.ftu.tick + 1 < s.ftu.length →
        (∀ ej, Instr.officeBoundary ej ∉ u.pending) ∧
        (Instr.measurementClose ∈ u.pending ↔ s.ftu.tick = 2046) ∧
        (∀ l r, u.pending = l ++ .measurementClose :: r →
          Instr.gradeStart ∉ r ∧ ∀ line ch t, Instr.railLineCapture line ch t ∉ r) ∧
        (∀ k half, Instr.officeBit k half ∈ u.pending ↔
          s.ftu.tick + 1 = 16 * k + (if half then 8 else 0) ∧
            (k ≤ 255 ∨ k = 256 ∧ half = false ∧ s.listen.phase = .joinFrame)) ∧
        reads { u with rail := s.rail } u) ∧
      (∀ t,
        (s.enabled t = false → u.trib t = s.trib t) ∧
        (s.enabled t = true →
          u.trib t = { s.trib t with
            rx := { (s.trib t).rx with darkTimer := (s.trib t).rx.darkTimer.map (· - 1) } } ∧
          ((s.trib t).rx.darkTimer = some 1 → (∀ b, (t, b) ∉ i.edges) → Instr.darkEntry t ∈ u.pending) ∧
          (Instr.darkEntry t ∈ u.pending → ∃ d ≤ 1, (s.trib t).rx.darkTimer = some d))) ∧
      (∀ t, u.pending.filterMap (edgeBit t) = bits i t) ∧
      (∀ c, (∀ t, edgeBit t c = none) → c ≠ .gradeStart → u.pending.count c ≤ 1) ∧
      Instr.resetAssertion ∉ u.pending ∧ (∀ p ej, Instr.resetRelease p ej ∉ u.pending) ∧
      (∀ r : RefId,
        let m := s.monitor r
        let high := match r with | .refA => i.pins.refA | .refB => i.pins.refB
        let accepted := m.state ≠ .absent ∧ high = true ∧ m.armed = true ∧ m.highTicks = 7
        (m.state = .absent → u.monitor r = m) ∧
        (m.state ≠ .absent → u.monitor r = { m with
          activity := m.activity.map (· - 1)
          armed := m.armed || !high
          highTicks := if high then (if m.armed then m.highTicks + 1 else m.highTicks) else 0 }) ∧
        (∀ n, Instr.acceptedEdge r n ∈ u.pending ↔ accepted ∧ n = s.ftu.crystal + 1 - 7) ∧
        (m.state ≠ .absent → m.activity = some 1 → ¬ accepted → Instr.missingEdge r ∈ u.pending) ∧
        (Instr.missingEdge r ∈ u.pending → m.state ≠ .absent ∧ ∃ d ≤ 1, m.activity = some d)) ∧
      (Instr.acknowledgement ∈ u.pending ↔
        i.pins.mak = true ∧ s.maint.makArmed = true ∧ s.maint.makHigh = 7) ∧
      (Instr.ejRisingEdge ∈ u.pending ↔
        s.listen.ejSampled = true ∧ s.pins.ej = false ∧ i.pins.ej = true) ∧
      (∀ line, Instr.pulseEnd line ∈ u.pending ↔
        ∃ e, s.rail.pulses.get line = some e ∧ e ≤ s.ftu.crystal + 1)) ∧
  (∀ s : State, s.pending = [] → s.railDue = true →
    ∃ u, step s = .next u ∧ reads s u ∧ u.pending.Nodup ∧
      (∀ c ∈ u.pending, c = .gradeStart ∨ ∃ line ch t, c = .railLineCapture line ch t) ∧
      u = { s with
        railDue := false, pending := u.pending, rail := { s.rail with caps := u.rail.caps } }) ∧
  ∀ (s : State) (i : TickInput), s.pending = [] → s.railDue = false → input s i →
    let ticked := { s with
      pins := i.pins, ftu := { s.ftu with crystal := s.ftu.crystal + 1 }, inputs := s.inputs.tail }
    (s.running = true → i.pins.rstn = false →
      step s = .next { ticked with
        pins := { i.pins with rstn := true }, pending := [.resetAssertion] }) ∧
    (s.running = false → i.pins.rstn = false → step s = .next ticked) ∧
    (s.running = false → i.pins.rstn = true →
      ∃ edges : List Instr,
        step s = .next { ticked with
          pins := { i.pins with rstn := false }
          pending := .resetRelease i.pins.straps i.pins.ej :: edges } ∧
        (∀ c ∈ edges, ∃ t b, c = .leaveDark t b) ∧
        ∀ t, edges.filterMap (edgeBit t) = bits i t ∨ edges.filterMap (edgeBit t) = [])
end

