-- ==== Sys2Proof/Laws/State.lean ====
section
/-! SUPPORT. One lemma for each field and each update of the state: what the update leaves alone. With the
values that the updates write, so that no proof unfolds a record update. -/

namespace Sys2Proof.Machine

/-! State.setTrib -/

@[simp] theorem State.setTrib_pins (s : State) (t : TribId) (x : Trib) :
    (s.setTrib t x).pins = s.pins := rfl

@[simp] theorem State.setTrib_straps (s : State) (t : TribId) (x : Trib) :
    (s.setTrib t x).straps = s.straps := rfl

@[simp] theorem State.setTrib_free (s : State) (t : TribId) (x : Trib) :
    (s.setTrib t x).free = s.free := rfl

@[simp] theorem State.setTrib_counters (s : State) (t : TribId) (x : Trib) :
    (s.setTrib t x).counters = s.counters := rfl

@[simp] theorem State.setTrib_ftu (s : State) (t : TribId) (x : Trib) :
    (s.setTrib t x).ftu = s.ftu := rfl

@[simp] theorem State.setTrib_monA (s : State) (t : TribId) (x : Trib) :
    (s.setTrib t x).monA = s.monA := rfl

@[simp] theorem State.setTrib_monB (s : State) (t : TribId) (x : Trib) :
    (s.setTrib t x).monB = s.monB := rfl

@[simp] theorem State.setTrib_selector (s : State) (t : TribId) (x : Trib) :
    (s.setTrib t x).selector = s.selector := rfl

@[simp] theorem State.setTrib_modes (s : State) (t : TribId) (x : Trib) :
    (s.setTrib t x).modes = s.modes := rfl

@[simp] theorem State.setTrib_rail (s : State) (t : TribId) (x : Trib) :
    (s.setTrib t x).rail = s.rail := rfl

@[simp] theorem State.setTrib_listen (s : State) (t : TribId) (x : Trib) :
    (s.setTrib t x).listen = s.listen := rfl

@[simp] theorem State.setTrib_flags (s : State) (t : TribId) (x : Trib) :
    (s.setTrib t x).flags = s.flags := rfl

@[simp] theorem State.setTrib_maint (s : State) (t : TribId) (x : Trib) :
    (s.setTrib t x).maint = s.maint := rfl

@[simp] theorem State.setTrib_out (s : State) (t : TribId) (x : Trib) :
    (s.setTrib t x).out = s.out := rfl

@[simp] theorem State.setTrib_pending (s : State) (t : TribId) (x : Trib) :
    (s.setTrib t x).pending = s.pending := rfl

@[simp] theorem State.setTrib_inputs (s : State) (t : TribId) (x : Trib) :
    (s.setTrib t x).inputs = s.inputs := rfl

@[simp] theorem State.setTrib_railDue (s : State) (t : TribId) (x : Trib) :
    (s.setTrib t x).railDue = s.railDue := rfl

@[simp] theorem State.setTrib_choiceSeq (s : State) (t : TribId) (x : Trib) :
    (s.setTrib t x).choiceSeq = s.choiceSeq := rfl

/-! State.modRx -/

@[simp] theorem State.modRx_pins (s : State) (t : TribId) (f : Receiver → Receiver) :
    (s.modRx t f).pins = s.pins := rfl

@[simp] theorem State.modRx_straps (s : State) (t : TribId) (f : Receiver → Receiver) :
    (s.modRx t f).straps = s.straps := rfl

@[simp] theorem State.modRx_free (s : State) (t : TribId) (f : Receiver → Receiver) :
    (s.modRx t f).free = s.free := rfl

@[simp] theorem State.modRx_counters (s : State) (t : TribId) (f : Receiver → Receiver) :
    (s.modRx t f).counters = s.counters := rfl

@[simp] theorem State.modRx_ftu (s : State) (t : TribId) (f : Receiver → Receiver) :
    (s.modRx t f).ftu = s.ftu := rfl

@[simp] theorem State.modRx_monA (s : State) (t : TribId) (f : Receiver → Receiver) :
    (s.modRx t f).monA = s.monA := rfl

@[simp] theorem State.modRx_monB (s : State) (t : TribId) (f : Receiver → Receiver) :
    (s.modRx t f).monB = s.monB := rfl

@[simp] theorem State.modRx_selector (s : State) (t : TribId) (f : Receiver → Receiver) :
    (s.modRx t f).selector = s.selector := rfl

@[simp] theorem State.modRx_modes (s : State) (t : TribId) (f : Receiver → Receiver) :
    (s.modRx t f).modes = s.modes := rfl

@[simp] theorem State.modRx_rail (s : State) (t : TribId) (f : Receiver → Receiver) :
    (s.modRx t f).rail = s.rail := rfl

@[simp] theorem State.modRx_listen (s : State) (t : TribId) (f : Receiver → Receiver) :
    (s.modRx t f).listen = s.listen := rfl

@[simp] theorem State.modRx_flags (s : State) (t : TribId) (f : Receiver → Receiver) :
    (s.modRx t f).flags = s.flags := rfl

@[simp] theorem State.modRx_maint (s : State) (t : TribId) (f : Receiver → Receiver) :
    (s.modRx t f).maint = s.maint := rfl

@[simp] theorem State.modRx_out (s : State) (t : TribId) (f : Receiver → Receiver) :
    (s.modRx t f).out = s.out := rfl

@[simp] theorem State.modRx_pending (s : State) (t : TribId) (f : Receiver → Receiver) :
    (s.modRx t f).pending = s.pending := rfl

@[simp] theorem State.modRx_inputs (s : State) (t : TribId) (f : Receiver → Receiver) :
    (s.modRx t f).inputs = s.inputs := rfl

@[simp] theorem State.modRx_railDue (s : State) (t : TribId) (f : Receiver → Receiver) :
    (s.modRx t f).railDue = s.railDue := rfl

@[simp] theorem State.modRx_choiceSeq (s : State) (t : TribId) (f : Receiver → Receiver) :
    (s.modRx t f).choiceSeq = s.choiceSeq := rfl

/-! State.modStore -/

@[simp] theorem State.modStore_pins (s : State) (t : TribId) (f : Store → Store) :
    (s.modStore t f).pins = s.pins := rfl

@[simp] theorem State.modStore_straps (s : State) (t : TribId) (f : Store → Store) :
    (s.modStore t f).straps = s.straps := rfl

@[simp] theorem State.modStore_free (s : State) (t : TribId) (f : Store → Store) :
    (s.modStore t f).free = s.free := rfl

@[simp] theorem State.modStore_counters (s : State) (t : TribId) (f : Store → Store) :
    (s.modStore t f).counters = s.counters := rfl

@[simp] theorem State.modStore_ftu (s : State) (t : TribId) (f : Store → Store) :
    (s.modStore t f).ftu = s.ftu := rfl

@[simp] theorem State.modStore_monA (s : State) (t : TribId) (f : Store → Store) :
    (s.modStore t f).monA = s.monA := rfl

@[simp] theorem State.modStore_monB (s : State) (t : TribId) (f : Store → Store) :
    (s.modStore t f).monB = s.monB := rfl

@[simp] theorem State.modStore_selector (s : State) (t : TribId) (f : Store → Store) :
    (s.modStore t f).selector = s.selector := rfl

@[simp] theorem State.modStore_modes (s : State) (t : TribId) (f : Store → Store) :
    (s.modStore t f).modes = s.modes := rfl

@[simp] theorem State.modStore_rail (s : State) (t : TribId) (f : Store → Store) :
    (s.modStore t f).rail = s.rail := rfl

@[simp] theorem State.modStore_listen (s : State) (t : TribId) (f : Store → Store) :
    (s.modStore t f).listen = s.listen := rfl

@[simp] theorem State.modStore_flags (s : State) (t : TribId) (f : Store → Store) :
    (s.modStore t f).flags = s.flags := rfl

@[simp] theorem State.modStore_maint (s : State) (t : TribId) (f : Store → Store) :
    (s.modStore t f).maint = s.maint := rfl

@[simp] theorem State.modStore_out (s : State) (t : TribId) (f : Store → Store) :
    (s.modStore t f).out = s.out := rfl

@[simp] theorem State.modStore_pending (s : State) (t : TribId) (f : Store → Store) :
    (s.modStore t f).pending = s.pending := rfl

@[simp] theorem State.modStore_inputs (s : State) (t : TribId) (f : Store → Store) :
    (s.modStore t f).inputs = s.inputs := rfl

@[simp] theorem State.modStore_railDue (s : State) (t : TribId) (f : Store → Store) :
    (s.modStore t f).railDue = s.railDue := rfl

@[simp] theorem State.modStore_choiceSeq (s : State) (t : TribId) (f : Store → Store) :
    (s.modStore t f).choiceSeq = s.choiceSeq := rfl

/-! State.modRecord -/

@[simp] theorem State.modRecord_pins (s : State) (t : TribId) (f : Record → Record) :
    (s.modRecord t f).pins = s.pins := rfl

@[simp] theorem State.modRecord_straps (s : State) (t : TribId) (f : Record → Record) :
    (s.modRecord t f).straps = s.straps := rfl

@[simp] theorem State.modRecord_free (s : State) (t : TribId) (f : Record → Record) :
    (s.modRecord t f).free = s.free := rfl

@[simp] theorem State.modRecord_counters (s : State) (t : TribId) (f : Record → Record) :
    (s.modRecord t f).counters = s.counters := rfl

@[simp] theorem State.modRecord_ftu (s : State) (t : TribId) (f : Record → Record) :
    (s.modRecord t f).ftu = s.ftu := rfl

@[simp] theorem State.modRecord_monA (s : State) (t : TribId) (f : Record → Record) :
    (s.modRecord t f).monA = s.monA := rfl

@[simp] theorem State.modRecord_monB (s : State) (t : TribId) (f : Record → Record) :
    (s.modRecord t f).monB = s.monB := rfl

@[simp] theorem State.modRecord_selector (s : State) (t : TribId) (f : Record → Record) :
    (s.modRecord t f).selector = s.selector := rfl

@[simp] theorem State.modRecord_modes (s : State) (t : TribId) (f : Record → Record) :
    (s.modRecord t f).modes = s.modes := rfl

@[simp] theorem State.modRecord_rail (s : State) (t : TribId) (f : Record → Record) :
    (s.modRecord t f).rail = s.rail := rfl

@[simp] theorem State.modRecord_listen (s : State) (t : TribId) (f : Record → Record) :
    (s.modRecord t f).listen = s.listen := rfl

@[simp] theorem State.modRecord_flags (s : State) (t : TribId) (f : Record → Record) :
    (s.modRecord t f).flags = s.flags := rfl

@[simp] theorem State.modRecord_maint (s : State) (t : TribId) (f : Record → Record) :
    (s.modRecord t f).maint = s.maint := rfl

@[simp] theorem State.modRecord_out (s : State) (t : TribId) (f : Record → Record) :
    (s.modRecord t f).out = s.out := rfl

@[simp] theorem State.modRecord_pending (s : State) (t : TribId) (f : Record → Record) :
    (s.modRecord t f).pending = s.pending := rfl

@[simp] theorem State.modRecord_inputs (s : State) (t : TribId) (f : Record → Record) :
    (s.modRecord t f).inputs = s.inputs := rfl

@[simp] theorem State.modRecord_railDue (s : State) (t : TribId) (f : Record → Record) :
    (s.modRecord t f).railDue = s.railDue := rfl

@[simp] theorem State.modRecord_choiceSeq (s : State) (t : TribId) (f : Record → Record) :
    (s.modRecord t f).choiceSeq = s.choiceSeq := rfl

/-! State.setStoreState -/

@[simp] theorem State.setStoreState_pins (s : State) (t : TribId) (st : StoreState) (n : Nat) :
    (s.setStoreState t st n).pins = s.pins := rfl

@[simp] theorem State.setStoreState_straps (s : State) (t : TribId) (st : StoreState) (n : Nat) :
    (s.setStoreState t st n).straps = s.straps := rfl

@[simp] theorem State.setStoreState_free (s : State) (t : TribId) (st : StoreState) (n : Nat) :
    (s.setStoreState t st n).free = s.free := rfl

@[simp] theorem State.setStoreState_counters (s : State) (t : TribId) (st : StoreState) (n : Nat) :
    (s.setStoreState t st n).counters = s.counters := rfl

@[simp] theorem State.setStoreState_ftu (s : State) (t : TribId) (st : StoreState) (n : Nat) :
    (s.setStoreState t st n).ftu = s.ftu := rfl

@[simp] theorem State.setStoreState_monA (s : State) (t : TribId) (st : StoreState) (n : Nat) :
    (s.setStoreState t st n).monA = s.monA := rfl

@[simp] theorem State.setStoreState_monB (s : State) (t : TribId) (st : StoreState) (n : Nat) :
    (s.setStoreState t st n).monB = s.monB := rfl

@[simp] theorem State.setStoreState_selector (s : State) (t : TribId) (st : StoreState) (n : Nat) :
    (s.setStoreState t st n).selector = s.selector := rfl

@[simp] theorem State.setStoreState_modes (s : State) (t : TribId) (st : StoreState) (n : Nat) :
    (s.setStoreState t st n).modes = s.modes := rfl

@[simp] theorem State.setStoreState_rail (s : State) (t : TribId) (st : StoreState) (n : Nat) :
    (s.setStoreState t st n).rail = s.rail := rfl

@[simp] theorem State.setStoreState_listen (s : State) (t : TribId) (st : StoreState) (n : Nat) :
    (s.setStoreState t st n).listen = s.listen := rfl

@[simp] theorem State.setStoreState_flags (s : State) (t : TribId) (st : StoreState) (n : Nat) :
    (s.setStoreState t st n).flags = s.flags := rfl

@[simp] theorem State.setStoreState_maint (s : State) (t : TribId) (st : StoreState) (n : Nat) :
    (s.setStoreState t st n).maint = s.maint := rfl

@[simp] theorem State.setStoreState_out (s : State) (t : TribId) (st : StoreState) (n : Nat) :
    (s.setStoreState t st n).out = s.out := rfl

@[simp] theorem State.setStoreState_pending (s : State) (t : TribId) (st : StoreState) (n : Nat) :
    (s.setStoreState t st n).pending = s.pending := rfl

@[simp] theorem State.setStoreState_inputs (s : State) (t : TribId) (st : StoreState) (n : Nat) :
    (s.setStoreState t st n).inputs = s.inputs := rfl

@[simp] theorem State.setStoreState_railDue (s : State) (t : TribId) (st : StoreState) (n : Nat) :
    (s.setStoreState t st n).railDue = s.railDue := rfl

@[simp] theorem State.setStoreState_choiceSeq (s : State) (t : TribId) (st : StoreState) (n : Nat) :
    (s.setStoreState t st n).choiceSeq = s.choiceSeq := rfl

/-! State.setOutFrame -/

@[simp] theorem State.setOutFrame_pins (s : State) (t : TribId) (f : BitVec 256) :
    (s.setOutFrame t f).pins = s.pins := rfl

@[simp] theorem State.setOutFrame_straps (s : State) (t : TribId) (f : BitVec 256) :
    (s.setOutFrame t f).straps = s.straps := rfl

@[simp] theorem State.setOutFrame_free (s : State) (t : TribId) (f : BitVec 256) :
    (s.setOutFrame t f).free = s.free := rfl

@[simp] theorem State.setOutFrame_counters (s : State) (t : TribId) (f : BitVec 256) :
    (s.setOutFrame t f).counters = s.counters := rfl

@[simp] theorem State.setOutFrame_ftu (s : State) (t : TribId) (f : BitVec 256) :
    (s.setOutFrame t f).ftu = s.ftu := rfl

@[simp] theorem State.setOutFrame_monA (s : State) (t : TribId) (f : BitVec 256) :
    (s.setOutFrame t f).monA = s.monA := rfl

@[simp] theorem State.setOutFrame_monB (s : State) (t : TribId) (f : BitVec 256) :
    (s.setOutFrame t f).monB = s.monB := rfl

@[simp] theorem State.setOutFrame_selector (s : State) (t : TribId) (f : BitVec 256) :
    (s.setOutFrame t f).selector = s.selector := rfl

@[simp] theorem State.setOutFrame_modes (s : State) (t : TribId) (f : BitVec 256) :
    (s.setOutFrame t f).modes = s.modes := rfl

@[simp] theorem State.setOutFrame_rail (s : State) (t : TribId) (f : BitVec 256) :
    (s.setOutFrame t f).rail = s.rail := rfl

@[simp] theorem State.setOutFrame_listen (s : State) (t : TribId) (f : BitVec 256) :
    (s.setOutFrame t f).listen = s.listen := rfl

@[simp] theorem State.setOutFrame_flags (s : State) (t : TribId) (f : BitVec 256) :
    (s.setOutFrame t f).flags = s.flags := rfl

@[simp] theorem State.setOutFrame_maint (s : State) (t : TribId) (f : BitVec 256) :
    (s.setOutFrame t f).maint = s.maint := rfl

@[simp] theorem State.setOutFrame_out (s : State) (t : TribId) (f : BitVec 256) :
    (s.setOutFrame t f).out = s.out := rfl

@[simp] theorem State.setOutFrame_pending (s : State) (t : TribId) (f : BitVec 256) :
    (s.setOutFrame t f).pending = s.pending := rfl

@[simp] theorem State.setOutFrame_inputs (s : State) (t : TribId) (f : BitVec 256) :
    (s.setOutFrame t f).inputs = s.inputs := rfl

@[simp] theorem State.setOutFrame_railDue (s : State) (t : TribId) (f : BitVec 256) :
    (s.setOutFrame t f).railDue = s.railDue := rfl

@[simp] theorem State.setOutFrame_choiceSeq (s : State) (t : TribId) (f : BitVec 256) :
    (s.setOutFrame t f).choiceSeq = s.choiceSeq := rfl

/-! State.setFree -/

@[simp] theorem State.setFree_pins (s : State) (n : Nat) :
    (s.setFree n).pins = s.pins := rfl

@[simp] theorem State.setFree_straps (s : State) (n : Nat) :
    (s.setFree n).straps = s.straps := rfl

@[simp] theorem State.setFree_tribs (s : State) (n : Nat) :
    (s.setFree n).tribs = s.tribs := rfl

@[simp] theorem State.setFree_counters (s : State) (n : Nat) :
    (s.setFree n).counters = s.counters := rfl

@[simp] theorem State.setFree_ftu (s : State) (n : Nat) :
    (s.setFree n).ftu = s.ftu := rfl

@[simp] theorem State.setFree_monA (s : State) (n : Nat) :
    (s.setFree n).monA = s.monA := rfl

@[simp] theorem State.setFree_monB (s : State) (n : Nat) :
    (s.setFree n).monB = s.monB := rfl

@[simp] theorem State.setFree_selector (s : State) (n : Nat) :
    (s.setFree n).selector = s.selector := rfl

@[simp] theorem State.setFree_modes (s : State) (n : Nat) :
    (s.setFree n).modes = s.modes := rfl

@[simp] theorem State.setFree_rail (s : State) (n : Nat) :
    (s.setFree n).rail = s.rail := rfl

@[simp] theorem State.setFree_listen (s : State) (n : Nat) :
    (s.setFree n).listen = s.listen := rfl

@[simp] theorem State.setFree_flags (s : State) (n : Nat) :
    (s.setFree n).flags = s.flags := rfl

@[simp] theorem State.setFree_maint (s : State) (n : Nat) :
    (s.setFree n).maint = s.maint := rfl

@[simp] theorem State.setFree_out (s : State) (n : Nat) :
    (s.setFree n).out = s.out := rfl

@[simp] theorem State.setFree_pending (s : State) (n : Nat) :
    (s.setFree n).pending = s.pending := rfl

@[simp] theorem State.setFree_inputs (s : State) (n : Nat) :
    (s.setFree n).inputs = s.inputs := rfl

@[simp] theorem State.setFree_railDue (s : State) (n : Nat) :
    (s.setFree n).railDue = s.railDue := rfl

@[simp] theorem State.setFree_choiceSeq (s : State) (n : Nat) :
    (s.setFree n).choiceSeq = s.choiceSeq := rfl

/-! State.eachTrib -/

@[simp] theorem State.eachTrib_pins (s : State) (f : TribId → Trib → Trib) :
    (s.eachTrib f).pins = s.pins := rfl

@[simp] theorem State.eachTrib_straps (s : State) (f : TribId → Trib → Trib) :
    (s.eachTrib f).straps = s.straps := rfl

@[simp] theorem State.eachTrib_free (s : State) (f : TribId → Trib → Trib) :
    (s.eachTrib f).free = s.free := rfl

@[simp] theorem State.eachTrib_counters (s : State) (f : TribId → Trib → Trib) :
    (s.eachTrib f).counters = s.counters := rfl

@[simp] theorem State.eachTrib_ftu (s : State) (f : TribId → Trib → Trib) :
    (s.eachTrib f).ftu = s.ftu := rfl

@[simp] theorem State.eachTrib_monA (s : State) (f : TribId → Trib → Trib) :
    (s.eachTrib f).monA = s.monA := rfl

@[simp] theorem State.eachTrib_monB (s : State) (f : TribId → Trib → Trib) :
    (s.eachTrib f).monB = s.monB := rfl

@[simp] theorem State.eachTrib_selector (s : State) (f : TribId → Trib → Trib) :
    (s.eachTrib f).selector = s.selector := rfl

@[simp] theorem State.eachTrib_modes (s : State) (f : TribId → Trib → Trib) :
    (s.eachTrib f).modes = s.modes := rfl

@[simp] theorem State.eachTrib_rail (s : State) (f : TribId → Trib → Trib) :
    (s.eachTrib f).rail = s.rail := rfl

@[simp] theorem State.eachTrib_listen (s : State) (f : TribId → Trib → Trib) :
    (s.eachTrib f).listen = s.listen := rfl

@[simp] theorem State.eachTrib_flags (s : State) (f : TribId → Trib → Trib) :
    (s.eachTrib f).flags = s.flags := rfl

@[simp] theorem State.eachTrib_maint (s : State) (f : TribId → Trib → Trib) :
    (s.eachTrib f).maint = s.maint := rfl

@[simp] theorem State.eachTrib_out (s : State) (f : TribId → Trib → Trib) :
    (s.eachTrib f).out = s.out := rfl

@[simp] theorem State.eachTrib_pending (s : State) (f : TribId → Trib → Trib) :
    (s.eachTrib f).pending = s.pending := rfl

@[simp] theorem State.eachTrib_inputs (s : State) (f : TribId → Trib → Trib) :
    (s.eachTrib f).inputs = s.inputs := rfl

@[simp] theorem State.eachTrib_railDue (s : State) (f : TribId → Trib → Trib) :
    (s.eachTrib f).railDue = s.railDue := rfl

@[simp] theorem State.eachTrib_choiceSeq (s : State) (f : TribId → Trib → Trib) :
    (s.eachTrib f).choiceSeq = s.choiceSeq := rfl

/-! State.raise -/

@[simp] theorem State.raise_pins (s : State) (f : FlagId) :
    (s.raise f).pins = s.pins := rfl

@[simp] theorem State.raise_straps (s : State) (f : FlagId) :
    (s.raise f).straps = s.straps := rfl

@[simp] theorem State.raise_tribs (s : State) (f : FlagId) :
    (s.raise f).tribs = s.tribs := rfl

@[simp] theorem State.raise_free (s : State) (f : FlagId) :
    (s.raise f).free = s.free := rfl

@[simp] theorem State.raise_counters (s : State) (f : FlagId) :
    (s.raise f).counters = s.counters := rfl

@[simp] theorem State.raise_ftu (s : State) (f : FlagId) :
    (s.raise f).ftu = s.ftu := rfl

@[simp] theorem State.raise_monA (s : State) (f : FlagId) :
    (s.raise f).monA = s.monA := rfl

@[simp] theorem State.raise_monB (s : State) (f : FlagId) :
    (s.raise f).monB = s.monB := rfl

@[simp] theorem State.raise_selector (s : State) (f : FlagId) :
    (s.raise f).selector = s.selector := rfl

@[simp] theorem State.raise_modes (s : State) (f : FlagId) :
    (s.raise f).modes = s.modes := rfl

@[simp] theorem State.raise_rail (s : State) (f : FlagId) :
    (s.raise f).rail = s.rail := rfl

@[simp] theorem State.raise_listen (s : State) (f : FlagId) :
    (s.raise f).listen = s.listen := rfl

@[simp] theorem State.raise_maint (s : State) (f : FlagId) :
    (s.raise f).maint = s.maint := rfl

@[simp] theorem State.raise_out (s : State) (f : FlagId) :
    (s.raise f).out = s.out := rfl

@[simp] theorem State.raise_pending (s : State) (f : FlagId) :
    (s.raise f).pending = s.pending := rfl

@[simp] theorem State.raise_inputs (s : State) (f : FlagId) :
    (s.raise f).inputs = s.inputs := rfl

@[simp] theorem State.raise_railDue (s : State) (f : FlagId) :
    (s.raise f).railDue = s.railDue := rfl

@[simp] theorem State.raise_choiceSeq (s : State) (f : FlagId) :
    (s.raise f).choiceSeq = s.choiceSeq := rfl

/-! State.setCaps -/

@[simp] theorem State.setCaps_pins (s : State) (c : Captures) :
    (s.setCaps c).pins = s.pins := rfl

@[simp] theorem State.setCaps_straps (s : State) (c : Captures) :
    (s.setCaps c).straps = s.straps := rfl

@[simp] theorem State.setCaps_tribs (s : State) (c : Captures) :
    (s.setCaps c).tribs = s.tribs := rfl

@[simp] theorem State.setCaps_free (s : State) (c : Captures) :
    (s.setCaps c).free = s.free := rfl

@[simp] theorem State.setCaps_counters (s : State) (c : Captures) :
    (s.setCaps c).counters = s.counters := rfl

@[simp] theorem State.setCaps_ftu (s : State) (c : Captures) :
    (s.setCaps c).ftu = s.ftu := rfl

@[simp] theorem State.setCaps_monA (s : State) (c : Captures) :
    (s.setCaps c).monA = s.monA := rfl

@[simp] theorem State.setCaps_monB (s : State) (c : Captures) :
    (s.setCaps c).monB = s.monB := rfl

@[simp] theorem State.setCaps_selector (s : State) (c : Captures) :
    (s.setCaps c).selector = s.selector := rfl

@[simp] theorem State.setCaps_modes (s : State) (c : Captures) :
    (s.setCaps c).modes = s.modes := rfl

@[simp] theorem State.setCaps_listen (s : State) (c : Captures) :
    (s.setCaps c).listen = s.listen := rfl

@[simp] theorem State.setCaps_flags (s : State) (c : Captures) :
    (s.setCaps c).flags = s.flags := rfl

@[simp] theorem State.setCaps_maint (s : State) (c : Captures) :
    (s.setCaps c).maint = s.maint := rfl

@[simp] theorem State.setCaps_out (s : State) (c : Captures) :
    (s.setCaps c).out = s.out := rfl

@[simp] theorem State.setCaps_pending (s : State) (c : Captures) :
    (s.setCaps c).pending = s.pending := rfl

@[simp] theorem State.setCaps_inputs (s : State) (c : Captures) :
    (s.setCaps c).inputs = s.inputs := rfl

@[simp] theorem State.setCaps_railDue (s : State) (c : Captures) :
    (s.setCaps c).railDue = s.railDue := rfl

@[simp] theorem State.setCaps_choiceSeq (s : State) (c : Captures) :
    (s.setCaps c).choiceSeq = s.choiceSeq := rfl

/-! State.setMonitor -/

@[simp] theorem State.setMonitor_pins (s : State) (r : RefId) (m : Monitor) :
    (s.setMonitor r m).pins = s.pins := by cases r <;> rfl

@[simp] theorem State.setMonitor_straps (s : State) (r : RefId) (m : Monitor) :
    (s.setMonitor r m).straps = s.straps := by cases r <;> rfl

@[simp] theorem State.setMonitor_tribs (s : State) (r : RefId) (m : Monitor) :
    (s.setMonitor r m).tribs = s.tribs := by cases r <;> rfl

@[simp] theorem State.setMonitor_free (s : State) (r : RefId) (m : Monitor) :
    (s.setMonitor r m).free = s.free := by cases r <;> rfl

@[simp] theorem State.setMonitor_counters (s : State) (r : RefId) (m : Monitor) :
    (s.setMonitor r m).counters = s.counters := by cases r <;> rfl

@[simp] theorem State.setMonitor_ftu (s : State) (r : RefId) (m : Monitor) :
    (s.setMonitor r m).ftu = s.ftu := by cases r <;> rfl

@[simp] theorem State.setMonitor_selector (s : State) (r : RefId) (m : Monitor) :
    (s.setMonitor r m).selector = s.selector := by cases r <;> rfl

@[simp] theorem State.setMonitor_modes (s : State) (r : RefId) (m : Monitor) :
    (s.setMonitor r m).modes = s.modes := by cases r <;> rfl

@[simp] theorem State.setMonitor_rail (s : State) (r : RefId) (m : Monitor) :
    (s.setMonitor r m).rail = s.rail := by cases r <;> rfl

@[simp] theorem State.setMonitor_listen (s : State) (r : RefId) (m : Monitor) :
    (s.setMonitor r m).listen = s.listen := by cases r <;> rfl

@[simp] theorem State.setMonitor_flags (s : State) (r : RefId) (m : Monitor) :
    (s.setMonitor r m).flags = s.flags := by cases r <;> rfl

@[simp] theorem State.setMonitor_maint (s : State) (r : RefId) (m : Monitor) :
    (s.setMonitor r m).maint = s.maint := by cases r <;> rfl

@[simp] theorem State.setMonitor_out (s : State) (r : RefId) (m : Monitor) :
    (s.setMonitor r m).out = s.out := by cases r <;> rfl

@[simp] theorem State.setMonitor_pending (s : State) (r : RefId) (m : Monitor) :
    (s.setMonitor r m).pending = s.pending := by cases r <;> rfl

@[simp] theorem State.setMonitor_inputs (s : State) (r : RefId) (m : Monitor) :
    (s.setMonitor r m).inputs = s.inputs := by cases r <;> rfl

@[simp] theorem State.setMonitor_railDue (s : State) (r : RefId) (m : Monitor) :
    (s.setMonitor r m).railDue = s.railDue := by cases r <;> rfl

@[simp] theorem State.setMonitor_choiceSeq (s : State) (r : RefId) (m : Monitor) :
    (s.setMonitor r m).choiceSeq = s.choiceSeq := by cases r <;> rfl

/-! State.regrade -/

@[simp] theorem State.regrade_pins (s : State) :
    (s.regrade).pins = s.pins := rfl

@[simp] theorem State.regrade_straps (s : State) :
    (s.regrade).straps = s.straps := rfl

@[simp] theorem State.regrade_tribs (s : State) :
    (s.regrade).tribs = s.tribs := rfl

@[simp] theorem State.regrade_free (s : State) :
    (s.regrade).free = s.free := rfl

@[simp] theorem State.regrade_counters (s : State) :
    (s.regrade).counters = s.counters := rfl

@[simp] theorem State.regrade_ftu (s : State) :
    (s.regrade).ftu = s.ftu := rfl

@[simp] theorem State.regrade_monA (s : State) :
    (s.regrade).monA = s.monA := rfl

@[simp] theorem State.regrade_monB (s : State) :
    (s.regrade).monB = s.monB := rfl

@[simp] theorem State.regrade_selector (s : State) :
    (s.regrade).selector = s.selector := rfl

@[simp] theorem State.regrade_rail (s : State) :
    (s.regrade).rail = s.rail := rfl

@[simp] theorem State.regrade_listen (s : State) :
    (s.regrade).listen = s.listen := rfl

@[simp] theorem State.regrade_flags (s : State) :
    (s.regrade).flags = s.flags := rfl

@[simp] theorem State.regrade_maint (s : State) :
    (s.regrade).maint = s.maint := rfl

@[simp] theorem State.regrade_out (s : State) :
    (s.regrade).out = s.out := rfl

@[simp] theorem State.regrade_pending (s : State) :
    (s.regrade).pending = s.pending := rfl

@[simp] theorem State.regrade_inputs (s : State) :
    (s.regrade).inputs = s.inputs := rfl

@[simp] theorem State.regrade_railDue (s : State) :
    (s.regrade).railDue = s.railDue := rfl

@[simp] theorem State.regrade_choiceSeq (s : State) :
    (s.regrade).choiceSeq = s.choiceSeq := rfl

/-! State.changeMode -/

@[simp] theorem State.changeMode_pins (s : State) (m : Mode) :
    (s.changeMode m).pins = s.pins := rfl

@[simp] theorem State.changeMode_straps (s : State) (m : Mode) :
    (s.changeMode m).straps = s.straps := rfl

@[simp] theorem State.changeMode_tribs (s : State) (m : Mode) :
    (s.changeMode m).tribs = s.tribs := rfl

@[simp] theorem State.changeMode_free (s : State) (m : Mode) :
    (s.changeMode m).free = s.free := rfl

@[simp] theorem State.changeMode_counters (s : State) (m : Mode) :
    (s.changeMode m).counters = s.counters := rfl

@[simp] theorem State.changeMode_monA (s : State) (m : Mode) :
    (s.changeMode m).monA = s.monA := rfl

@[simp] theorem State.changeMode_monB (s : State) (m : Mode) :
    (s.changeMode m).monB = s.monB := rfl

@[simp] theorem State.changeMode_selector (s : State) (m : Mode) :
    (s.changeMode m).selector = s.selector := rfl

@[simp] theorem State.changeMode_listen (s : State) (m : Mode) :
    (s.changeMode m).listen = s.listen := rfl

@[simp] theorem State.changeMode_flags (s : State) (m : Mode) :
    (s.changeMode m).flags = s.flags := rfl

@[simp] theorem State.changeMode_maint (s : State) (m : Mode) :
    (s.changeMode m).maint = s.maint := rfl

@[simp] theorem State.changeMode_out (s : State) (m : Mode) :
    (s.changeMode m).out = s.out := rfl

@[simp] theorem State.changeMode_pending (s : State) (m : Mode) :
    (s.changeMode m).pending = s.pending := rfl

@[simp] theorem State.changeMode_inputs (s : State) (m : Mode) :
    (s.changeMode m).inputs = s.inputs := rfl

@[simp] theorem State.changeMode_railDue (s : State) (m : Mode) :
    (s.changeMode m).railDue = s.railDue := rfl

@[simp] theorem State.changeMode_choiceSeq (s : State) (m : Mode) :
    (s.changeMode m).choiceSeq = s.choiceSeq := rfl

/-! State.acquire -/

@[simp] theorem State.acquire_pins (s : State) :
    (s.acquire).pins = s.pins := rfl

@[simp] theorem State.acquire_straps (s : State) :
    (s.acquire).straps = s.straps := rfl

@[simp] theorem State.acquire_tribs (s : State) :
    (s.acquire).tribs = s.tribs := rfl

@[simp] theorem State.acquire_free (s : State) :
    (s.acquire).free = s.free := rfl

@[simp] theorem State.acquire_counters (s : State) :
    (s.acquire).counters = s.counters := rfl

@[simp] theorem State.acquire_monA (s : State) :
    (s.acquire).monA = s.monA := rfl

@[simp] theorem State.acquire_monB (s : State) :
    (s.acquire).monB = s.monB := rfl

@[simp] theorem State.acquire_selector (s : State) :
    (s.acquire).selector = s.selector := rfl

@[simp] theorem State.acquire_modes (s : State) :
    (s.acquire).modes = s.modes := rfl

@[simp] theorem State.acquire_rail (s : State) :
    (s.acquire).rail = s.rail := rfl

@[simp] theorem State.acquire_listen (s : State) :
    (s.acquire).listen = s.listen := rfl

@[simp] theorem State.acquire_flags (s : State) :
    (s.acquire).flags = s.flags := rfl

@[simp] theorem State.acquire_maint (s : State) :
    (s.acquire).maint = s.maint := rfl

@[simp] theorem State.acquire_out (s : State) :
    (s.acquire).out = s.out := rfl

@[simp] theorem State.acquire_pending (s : State) :
    (s.acquire).pending = s.pending := rfl

@[simp] theorem State.acquire_inputs (s : State) :
    (s.acquire).inputs = s.inputs := rfl

@[simp] theorem State.acquire_railDue (s : State) :
    (s.acquire).railDue = s.railDue := rfl

@[simp] theorem State.acquire_choiceSeq (s : State) :
    (s.acquire).choiceSeq = s.choiceSeq := rfl

/-! State.driveOutputs -/

@[simp] theorem State.driveOutputs_pins (s : State) (tick : Nat) :
    (s.driveOutputs tick).pins = s.pins := rfl

@[simp] theorem State.driveOutputs_straps (s : State) (tick : Nat) :
    (s.driveOutputs tick).straps = s.straps := rfl

@[simp] theorem State.driveOutputs_tribs (s : State) (tick : Nat) :
    (s.driveOutputs tick).tribs = s.tribs := rfl

@[simp] theorem State.driveOutputs_free (s : State) (tick : Nat) :
    (s.driveOutputs tick).free = s.free := rfl

@[simp] theorem State.driveOutputs_counters (s : State) (tick : Nat) :
    (s.driveOutputs tick).counters = s.counters := rfl

@[simp] theorem State.driveOutputs_ftu (s : State) (tick : Nat) :
    (s.driveOutputs tick).ftu = s.ftu := rfl

@[simp] theorem State.driveOutputs_monA (s : State) (tick : Nat) :
    (s.driveOutputs tick).monA = s.monA := rfl

@[simp] theorem State.driveOutputs_monB (s : State) (tick : Nat) :
    (s.driveOutputs tick).monB = s.monB := rfl

@[simp] theorem State.driveOutputs_selector (s : State) (tick : Nat) :
    (s.driveOutputs tick).selector = s.selector := rfl

@[simp] theorem State.driveOutputs_modes (s : State) (tick : Nat) :
    (s.driveOutputs tick).modes = s.modes := rfl

@[simp] theorem State.driveOutputs_rail (s : State) (tick : Nat) :
    (s.driveOutputs tick).rail = s.rail := rfl

@[simp] theorem State.driveOutputs_listen (s : State) (tick : Nat) :
    (s.driveOutputs tick).listen = s.listen := rfl

@[simp] theorem State.driveOutputs_flags (s : State) (tick : Nat) :
    (s.driveOutputs tick).flags = s.flags := rfl

@[simp] theorem State.driveOutputs_maint (s : State) (tick : Nat) :
    (s.driveOutputs tick).maint = s.maint := rfl

@[simp] theorem State.driveOutputs_pending (s : State) (tick : Nat) :
    (s.driveOutputs tick).pending = s.pending := rfl

@[simp] theorem State.driveOutputs_inputs (s : State) (tick : Nat) :
    (s.driveOutputs tick).inputs = s.inputs := rfl

@[simp] theorem State.driveOutputs_railDue (s : State) (tick : Nat) :
    (s.driveOutputs tick).railDue = s.railDue := rfl

@[simp] theorem State.driveOutputs_choiceSeq (s : State) (tick : Nat) :
    (s.driveOutputs tick).choiceSeq = s.choiceSeq := rfl

/-! What the updates write -/

@[simp] theorem State.trib_setTrib_same (s : State) (t : TribId) (x : Trib) :
    (s.setTrib t x).trib t = x := by simp [State.trib, State.setTrib]

@[simp] theorem State.trib_setTrib_ne (s : State) {t v : TribId} (x : Trib) (h : v ≠ t) :
    (s.setTrib t x).trib v = s.trib v := by
  have h' : t.val ≠ v.val := fun e => h (Fin.ext e.symm)
  simp [State.trib, State.setTrib, h']

/-- Reading a tributary after one is put in its place. -/
theorem State.trib_setTrib (s : State) (t v : TribId) (x : Trib) :
    (s.setTrib t x).trib v = if v = t then x else s.trib v := by
  by_cases h : v = t
  · subst h; simp
  · simp [h]

/-- Two changes of one tributary are the later one. -/
@[simp] theorem State.setTrib_setTrib (s : State) (t : TribId) (x y : Trib) :
    (s.setTrib t x).setTrib t y = s.setTrib t y := by
  simp [State.setTrib, Vector.set_set]

/-- Putting back what is there changes nothing. -/
@[simp] theorem State.setTrib_trib (s : State) (t : TribId) : s.setTrib t (s.trib t) = s := by
  simp [State.setTrib, State.trib]

@[simp] theorem State.trib_eachTrib (s : State) (f : TribId → Trib → Trib) (t : TribId) :
    (s.eachTrib f).trib t = f t (s.trib t) := by simp [State.trib, State.eachTrib]

@[simp] theorem State.monitor_setMonitor_same (s : State) (r : RefId) (m : Monitor) :
    (s.setMonitor r m).monitor r = m := by cases r <;> rfl

@[simp] theorem State.monitor_setMonitor_other (s : State) (r : RefId) (m : Monitor) :
    (s.setMonitor r m).monitor r.other = s.monitor r.other := by cases r <;> rfl

@[simp] theorem State.setMonitor_setMonitor (s : State) (r : RefId) (m n : Monitor) :
    (s.setMonitor r m).setMonitor r n = s.setMonitor r n := by cases r <;> rfl

@[simp] theorem RefId.other_other (r : RefId) : r.other.other = r := by cases r <;> rfl

@[simp] theorem State.changeMode_mode (s : State) (m : Mode) : (s.changeMode m).modes.mode = m := rfl

@[simp] theorem State.regrade_mode (s : State) : s.regrade.modes.mode = s.modes.mode := rfl

/-! Readings that depend on few fields -/

@[simp] theorem State.running_setTrib (s : State) (t : TribId) (x : Trib) :
    (s.setTrib t x).running = s.running := rfl

@[simp] theorem State.enabled_setTrib (s : State) (t v : TribId) (x : Trib) :
    (s.setTrib t x).enabled v = s.enabled v := rfl

@[simp] theorem State.depth_setTrib (s : State) (t : TribId) (x : Trib) :
    (s.setTrib t x).depth = s.depth := rfl

@[simp] theorem State.stamp_setTrib (s : State) (t : TribId) (x : Trib) :
    (s.setTrib t x).stamp = s.stamp := rfl

@[simp] theorem State.classOf_setTrib (s : State) (t v : TribId) (x : Trib) :
    (s.setTrib t x).classOf v = s.classOf v := rfl

@[simp] theorem State.trib_setFree (s : State) (n : Nat) (t : TribId) :
    (s.setFree n).trib t = s.trib t := rfl

@[simp] theorem State.free_setFree (s : State) (n : Nat) : (s.setFree n).free = n := rfl

/-! The order in which a proof meets the updates: flags outermost, then the free count, then the
tributaries. -/

@[simp] theorem State.setFree_setTrib (s : State) (n : Nat) (t : TribId) (x : Trib) :
    (s.setFree n).setTrib t x = (s.setTrib t x).setFree n := rfl

@[simp] theorem State.raise_setTrib (s : State) (f : FlagId) (t : TribId) (x : Trib) :
    (s.raise f).setTrib t x = (s.setTrib t x).raise f := rfl

@[simp] theorem State.raise_setFree (s : State) (f : FlagId) (n : Nat) :
    (s.raise f).setFree n = (s.setFree n).raise f := rfl

@[simp] theorem State.setFree_setFree (s : State) (m n : Nat) :
    (s.setFree m).setFree n = s.setFree n := rfl

@[simp] theorem State.trib_raise (s : State) (f : FlagId) (t : TribId) :
    (s.raise f).trib t = s.trib t := rfl

/-- Raising sets V and X of the flag named and leaves its S (R171). -/
theorem Flags.get_raise (fs : Flags) (f : FlagId) :
    (fs.raise f).get f = { fs.get f with v := true, x := true } := by cases f <;> rfl

/-- Raising leaves every other flag. -/
theorem Flags.get_raise_ne (fs : Flags) {f g : FlagId} (h : g ≠ f) :
    (fs.raise f).get g = fs.get g := by cases f <;> cases g <;> first | rfl | exact absurd rfl h

/-- The same change at every flag. -/
@[simp] theorem Flags.get_each (fs : Flags) (g : Flag → Flag) (f : FlagId) :
    (fs.each g).get f = g (fs.get f) := by cases f <;> rfl

end Sys2Proof.Machine
end

