-- ==== Sys2Proof/Laws/Pool.lean ====
section
/-! SUPPORT. The pool operations: what each of them leaves alone, field by field, and what a cell request can do. -/

namespace Sys2Proof.Machine

/-! Every change of one part of a tributary, read back -/

theorem State.trib_modRx (s : State) (t v : TribId) (f : Receiver → Receiver) :
    (s.modRx t f).trib v = if v = t then { s.trib v with rx := f (s.trib v).rx } else s.trib v := by
  by_cases h : v = t
  · subst h; simp [State.modRx]
  · simp [State.modRx, h]

theorem State.trib_modStore (s : State) (t v : TribId) (f : Store → Store) :
    (s.modStore t f).trib v = if v = t then { s.trib v with store := f (s.trib v).store } else s.trib v := by
  by_cases h : v = t
  · subst h; simp [State.modStore]
  · simp [State.modStore, h]

theorem State.trib_modRecord (s : State) (t v : TribId) (f : Record → Record) :
    (s.modRecord t f).trib v = if v = t then { s.trib v with record := f (s.trib v).record } else s.trib v := by
  by_cases h : v = t
  · subst h; simp [State.modRecord]
  · simp [State.modRecord, h]

theorem State.trib_setStoreState (s : State) (t v : TribId) (st : StoreState) (n : Nat) :
    (s.setStoreState t st n).trib v =
      if v = t then { s.trib v with storeState := st, repeatRun := n } else s.trib v := by
  by_cases h : v = t
  · subst h; simp [State.setStoreState]
  · simp [State.setStoreState, h]

theorem State.trib_setOutFrame (s : State) (t v : TribId) (f : BitVec 256) :
    (s.setOutFrame t f).trib v = if v = t then { s.trib v with outFrame := f } else s.trib v := by
  by_cases h : v = t
  · subst h; simp [State.setOutFrame]
  · simp [State.setOutFrame, h]


/-! State.grant -/

@[simp] theorem State.grant_pins (s : State) (t : TribId) :
    (s.grant t).pins = s.pins := rfl

@[simp] theorem State.grant_straps (s : State) (t : TribId) :
    (s.grant t).straps = s.straps := rfl

@[simp] theorem State.grant_ftu (s : State) (t : TribId) :
    (s.grant t).ftu = s.ftu := rfl

@[simp] theorem State.grant_monA (s : State) (t : TribId) :
    (s.grant t).monA = s.monA := rfl

@[simp] theorem State.grant_monB (s : State) (t : TribId) :
    (s.grant t).monB = s.monB := rfl

@[simp] theorem State.grant_selector (s : State) (t : TribId) :
    (s.grant t).selector = s.selector := rfl

@[simp] theorem State.grant_modes (s : State) (t : TribId) :
    (s.grant t).modes = s.modes := rfl

@[simp] theorem State.grant_rail (s : State) (t : TribId) :
    (s.grant t).rail = s.rail := rfl

@[simp] theorem State.grant_listen (s : State) (t : TribId) :
    (s.grant t).listen = s.listen := rfl

@[simp] theorem State.grant_counters (s : State) (t : TribId) :
    (s.grant t).counters = s.counters := rfl

@[simp] theorem State.grant_maint (s : State) (t : TribId) :
    (s.grant t).maint = s.maint := rfl

@[simp] theorem State.grant_out (s : State) (t : TribId) :
    (s.grant t).out = s.out := rfl

@[simp] theorem State.grant_pending (s : State) (t : TribId) :
    (s.grant t).pending = s.pending := rfl

@[simp] theorem State.grant_inputs (s : State) (t : TribId) :
    (s.grant t).inputs = s.inputs := rfl

@[simp] theorem State.grant_railDue (s : State) (t : TribId) :
    (s.grant t).railDue = s.railDue := rfl

@[simp] theorem State.grant_choiceSeq (s : State) (t : TribId) :
    (s.grant t).choiceSeq = s.choiceSeq := rfl

@[simp] theorem State.grant_trib_rx (s : State) (t : TribId) (v : TribId) :
    ((s.grant t).trib v).rx = (s.trib v).rx := by
  simp only [State.grant, State.trib_setFree, State.trib_modStore]; split <;> rfl

@[simp] theorem State.grant_trib_storeState (s : State) (t : TribId) (v : TribId) :
    ((s.grant t).trib v).storeState = (s.trib v).storeState := by
  simp only [State.grant, State.trib_setFree, State.trib_modStore]; split <;> rfl

@[simp] theorem State.grant_trib_repeatRun (s : State) (t : TribId) (v : TribId) :
    ((s.grant t).trib v).repeatRun = (s.trib v).repeatRun := by
  simp only [State.grant, State.trib_setFree, State.trib_modStore]; split <;> rfl

@[simp] theorem State.grant_trib_outFrame (s : State) (t : TribId) (v : TribId) :
    ((s.grant t).trib v).outFrame = (s.trib v).outFrame := by
  simp only [State.grant, State.trib_setFree, State.trib_modStore]; split <;> rfl

/-! State.releaseFilling -/

@[simp] theorem State.releaseFilling_pins (s : State) (t : TribId) :
    (s.releaseFilling t).pins = s.pins := by
  unfold State.releaseFilling; split <;> rfl

@[simp] theorem State.releaseFilling_straps (s : State) (t : TribId) :
    (s.releaseFilling t).straps = s.straps := by
  unfold State.releaseFilling; split <;> rfl

@[simp] theorem State.releaseFilling_ftu (s : State) (t : TribId) :
    (s.releaseFilling t).ftu = s.ftu := by
  unfold State.releaseFilling; split <;> rfl

@[simp] theorem State.releaseFilling_monA (s : State) (t : TribId) :
    (s.releaseFilling t).monA = s.monA := by
  unfold State.releaseFilling; split <;> rfl

@[simp] theorem State.releaseFilling_monB (s : State) (t : TribId) :
    (s.releaseFilling t).monB = s.monB := by
  unfold State.releaseFilling; split <;> rfl

@[simp] theorem State.releaseFilling_selector (s : State) (t : TribId) :
    (s.releaseFilling t).selector = s.selector := by
  unfold State.releaseFilling; split <;> rfl

@[simp] theorem State.releaseFilling_modes (s : State) (t : TribId) :
    (s.releaseFilling t).modes = s.modes := by
  unfold State.releaseFilling; split <;> rfl

@[simp] theorem State.releaseFilling_rail (s : State) (t : TribId) :
    (s.releaseFilling t).rail = s.rail := by
  unfold State.releaseFilling; split <;> rfl

@[simp] theorem State.releaseFilling_listen (s : State) (t : TribId) :
    (s.releaseFilling t).listen = s.listen := by
  unfold State.releaseFilling; split <;> rfl

@[simp] theorem State.releaseFilling_counters (s : State) (t : TribId) :
    (s.releaseFilling t).counters = s.counters := by
  unfold State.releaseFilling; split <;> rfl

@[simp] theorem State.releaseFilling_maint (s : State) (t : TribId) :
    (s.releaseFilling t).maint = s.maint := by
  unfold State.releaseFilling; split <;> rfl

@[simp] theorem State.releaseFilling_out (s : State) (t : TribId) :
    (s.releaseFilling t).out = s.out := by
  unfold State.releaseFilling; split <;> rfl

@[simp] theorem State.releaseFilling_pending (s : State) (t : TribId) :
    (s.releaseFilling t).pending = s.pending := by
  unfold State.releaseFilling; split <;> rfl

@[simp] theorem State.releaseFilling_inputs (s : State) (t : TribId) :
    (s.releaseFilling t).inputs = s.inputs := by
  unfold State.releaseFilling; split <;> rfl

@[simp] theorem State.releaseFilling_railDue (s : State) (t : TribId) :
    (s.releaseFilling t).railDue = s.railDue := by
  unfold State.releaseFilling; split <;> rfl

@[simp] theorem State.releaseFilling_choiceSeq (s : State) (t : TribId) :
    (s.releaseFilling t).choiceSeq = s.choiceSeq := by
  unfold State.releaseFilling; split <;> rfl

@[simp] theorem State.releaseFilling_trib_rx (s : State) (t : TribId) (v : TribId) :
    ((s.releaseFilling t).trib v).rx = (s.trib v).rx := by
  unfold State.releaseFilling; split
  · rfl
  · simp only [State.trib_setFree, State.trib_modStore]; split <;> rfl

@[simp] theorem State.releaseFilling_trib_storeState (s : State) (t : TribId) (v : TribId) :
    ((s.releaseFilling t).trib v).storeState = (s.trib v).storeState := by
  unfold State.releaseFilling; split
  · rfl
  · simp only [State.trib_setFree, State.trib_modStore]; split <;> rfl

@[simp] theorem State.releaseFilling_trib_repeatRun (s : State) (t : TribId) (v : TribId) :
    ((s.releaseFilling t).trib v).repeatRun = (s.trib v).repeatRun := by
  unfold State.releaseFilling; split
  · rfl
  · simp only [State.trib_setFree, State.trib_modStore]; split <;> rfl

@[simp] theorem State.releaseFilling_trib_outFrame (s : State) (t : TribId) (v : TribId) :
    ((s.releaseFilling t).trib v).outFrame = (s.trib v).outFrame := by
  unfold State.releaseFilling; split
  · rfl
  · simp only [State.trib_setFree, State.trib_modStore]; split <;> rfl

/-! State.releaseTransmitting -/

@[simp] theorem State.releaseTransmitting_pins (s : State) (t : TribId) :
    (s.releaseTransmitting t).pins = s.pins := by
  unfold State.releaseTransmitting; split <;> rfl

@[simp] theorem State.releaseTransmitting_straps (s : State) (t : TribId) :
    (s.releaseTransmitting t).straps = s.straps := by
  unfold State.releaseTransmitting; split <;> rfl

@[simp] theorem State.releaseTransmitting_ftu (s : State) (t : TribId) :
    (s.releaseTransmitting t).ftu = s.ftu := by
  unfold State.releaseTransmitting; split <;> rfl

@[simp] theorem State.releaseTransmitting_monA (s : State) (t : TribId) :
    (s.releaseTransmitting t).monA = s.monA := by
  unfold State.releaseTransmitting; split <;> rfl

@[simp] theorem State.releaseTransmitting_monB (s : State) (t : TribId) :
    (s.releaseTransmitting t).monB = s.monB := by
  unfold State.releaseTransmitting; split <;> rfl

@[simp] theorem State.releaseTransmitting_selector (s : State) (t : TribId) :
    (s.releaseTransmitting t).selector = s.selector := by
  unfold State.releaseTransmitting; split <;> rfl

@[simp] theorem State.releaseTransmitting_modes (s : State) (t : TribId) :
    (s.releaseTransmitting t).modes = s.modes := by
  unfold State.releaseTransmitting; split <;> rfl

@[simp] theorem State.releaseTransmitting_rail (s : State) (t : TribId) :
    (s.releaseTransmitting t).rail = s.rail := by
  unfold State.releaseTransmitting; split <;> rfl

@[simp] theorem State.releaseTransmitting_listen (s : State) (t : TribId) :
    (s.releaseTransmitting t).listen = s.listen := by
  unfold State.releaseTransmitting; split <;> rfl

@[simp] theorem State.releaseTransmitting_counters (s : State) (t : TribId) :
    (s.releaseTransmitting t).counters = s.counters := by
  unfold State.releaseTransmitting; split <;> rfl

@[simp] theorem State.releaseTransmitting_maint (s : State) (t : TribId) :
    (s.releaseTransmitting t).maint = s.maint := by
  unfold State.releaseTransmitting; split <;> rfl

@[simp] theorem State.releaseTransmitting_out (s : State) (t : TribId) :
    (s.releaseTransmitting t).out = s.out := by
  unfold State.releaseTransmitting; split <;> rfl

@[simp] theorem State.releaseTransmitting_pending (s : State) (t : TribId) :
    (s.releaseTransmitting t).pending = s.pending := by
  unfold State.releaseTransmitting; split <;> rfl

@[simp] theorem State.releaseTransmitting_inputs (s : State) (t : TribId) :
    (s.releaseTransmitting t).inputs = s.inputs := by
  unfold State.releaseTransmitting; split <;> rfl

@[simp] theorem State.releaseTransmitting_railDue (s : State) (t : TribId) :
    (s.releaseTransmitting t).railDue = s.railDue := by
  unfold State.releaseTransmitting; split <;> rfl

@[simp] theorem State.releaseTransmitting_choiceSeq (s : State) (t : TribId) :
    (s.releaseTransmitting t).choiceSeq = s.choiceSeq := by
  unfold State.releaseTransmitting; split <;> rfl

@[simp] theorem State.releaseTransmitting_trib_rx (s : State) (t : TribId) (v : TribId) :
    ((s.releaseTransmitting t).trib v).rx = (s.trib v).rx := by
  unfold State.releaseTransmitting; split
  · rfl
  · simp only [State.trib_setFree, State.trib_modStore]; split <;> rfl

@[simp] theorem State.releaseTransmitting_trib_storeState (s : State) (t : TribId) (v : TribId) :
    ((s.releaseTransmitting t).trib v).storeState = (s.trib v).storeState := by
  unfold State.releaseTransmitting; split
  · rfl
  · simp only [State.trib_setFree, State.trib_modStore]; split <;> rfl

@[simp] theorem State.releaseTransmitting_trib_repeatRun (s : State) (t : TribId) (v : TribId) :
    ((s.releaseTransmitting t).trib v).repeatRun = (s.trib v).repeatRun := by
  unfold State.releaseTransmitting; split
  · rfl
  · simp only [State.trib_setFree, State.trib_modStore]; split <;> rfl

@[simp] theorem State.releaseTransmitting_trib_outFrame (s : State) (t : TribId) (v : TribId) :
    ((s.releaseTransmitting t).trib v).outFrame = (s.trib v).outFrame := by
  unfold State.releaseTransmitting; split
  · rfl
  · simp only [State.trib_setFree, State.trib_modStore]; split <;> rfl

/-! State.dequeue -/

@[simp] theorem State.dequeue_pins (s : State) (t : TribId) :
    (s.dequeue t).pins = s.pins := by
  unfold State.dequeue; split <;> simp

@[simp] theorem State.dequeue_straps (s : State) (t : TribId) :
    (s.dequeue t).straps = s.straps := by
  unfold State.dequeue; split <;> simp

@[simp] theorem State.dequeue_ftu (s : State) (t : TribId) :
    (s.dequeue t).ftu = s.ftu := by
  unfold State.dequeue; split <;> simp

@[simp] theorem State.dequeue_monA (s : State) (t : TribId) :
    (s.dequeue t).monA = s.monA := by
  unfold State.dequeue; split <;> simp

@[simp] theorem State.dequeue_monB (s : State) (t : TribId) :
    (s.dequeue t).monB = s.monB := by
  unfold State.dequeue; split <;> simp

@[simp] theorem State.dequeue_selector (s : State) (t : TribId) :
    (s.dequeue t).selector = s.selector := by
  unfold State.dequeue; split <;> simp

@[simp] theorem State.dequeue_modes (s : State) (t : TribId) :
    (s.dequeue t).modes = s.modes := by
  unfold State.dequeue; split <;> simp

@[simp] theorem State.dequeue_rail (s : State) (t : TribId) :
    (s.dequeue t).rail = s.rail := by
  unfold State.dequeue; split <;> simp

@[simp] theorem State.dequeue_listen (s : State) (t : TribId) :
    (s.dequeue t).listen = s.listen := by
  unfold State.dequeue; split <;> simp

@[simp] theorem State.dequeue_counters (s : State) (t : TribId) :
    (s.dequeue t).counters = s.counters := by
  unfold State.dequeue; split <;> simp

@[simp] theorem State.dequeue_maint (s : State) (t : TribId) :
    (s.dequeue t).maint = s.maint := by
  unfold State.dequeue; split <;> simp

@[simp] theorem State.dequeue_out (s : State) (t : TribId) :
    (s.dequeue t).out = s.out := by
  unfold State.dequeue; split <;> simp

@[simp] theorem State.dequeue_pending (s : State) (t : TribId) :
    (s.dequeue t).pending = s.pending := by
  unfold State.dequeue; split <;> simp

@[simp] theorem State.dequeue_inputs (s : State) (t : TribId) :
    (s.dequeue t).inputs = s.inputs := by
  unfold State.dequeue; split <;> simp

@[simp] theorem State.dequeue_railDue (s : State) (t : TribId) :
    (s.dequeue t).railDue = s.railDue := by
  unfold State.dequeue; split <;> simp

@[simp] theorem State.dequeue_choiceSeq (s : State) (t : TribId) :
    (s.dequeue t).choiceSeq = s.choiceSeq := by
  unfold State.dequeue; split <;> simp

@[simp] theorem State.dequeue_trib_rx (s : State) (t : TribId) (v : TribId) :
    ((s.dequeue t).trib v).rx = (s.trib v).rx := by
  unfold State.dequeue; split
  · rfl
  · simp only [State.trib_modStore]; split <;> simp

@[simp] theorem State.dequeue_trib_storeState (s : State) (t : TribId) (v : TribId) :
    ((s.dequeue t).trib v).storeState = (s.trib v).storeState := by
  unfold State.dequeue; split
  · rfl
  · simp only [State.trib_modStore]; split <;> simp

@[simp] theorem State.dequeue_trib_repeatRun (s : State) (t : TribId) (v : TribId) :
    ((s.dequeue t).trib v).repeatRun = (s.trib v).repeatRun := by
  unfold State.dequeue; split
  · rfl
  · simp only [State.trib_modStore]; split <;> simp

@[simp] theorem State.dequeue_trib_outFrame (s : State) (t : TribId) (v : TribId) :
    ((s.dequeue t).trib v).outFrame = (s.trib v).outFrame := by
  unfold State.dequeue; split
  · rfl
  · simp only [State.trib_modStore]; split <;> simp

/-! State.deleteSlip -/

@[simp] theorem State.deleteSlip_pins (s : State) (t : TribId) :
    (s.deleteSlip t).pins = s.pins := rfl

@[simp] theorem State.deleteSlip_straps (s : State) (t : TribId) :
    (s.deleteSlip t).straps = s.straps := rfl

@[simp] theorem State.deleteSlip_ftu (s : State) (t : TribId) :
    (s.deleteSlip t).ftu = s.ftu := rfl

@[simp] theorem State.deleteSlip_monA (s : State) (t : TribId) :
    (s.deleteSlip t).monA = s.monA := rfl

@[simp] theorem State.deleteSlip_monB (s : State) (t : TribId) :
    (s.deleteSlip t).monB = s.monB := rfl

@[simp] theorem State.deleteSlip_selector (s : State) (t : TribId) :
    (s.deleteSlip t).selector = s.selector := rfl

@[simp] theorem State.deleteSlip_modes (s : State) (t : TribId) :
    (s.deleteSlip t).modes = s.modes := rfl

@[simp] theorem State.deleteSlip_rail (s : State) (t : TribId) :
    (s.deleteSlip t).rail = s.rail := rfl

@[simp] theorem State.deleteSlip_listen (s : State) (t : TribId) :
    (s.deleteSlip t).listen = s.listen := rfl

@[simp] theorem State.deleteSlip_counters (s : State) (t : TribId) :
    (s.deleteSlip t).counters = s.counters := rfl

@[simp] theorem State.deleteSlip_maint (s : State) (t : TribId) :
    (s.deleteSlip t).maint = s.maint := rfl

@[simp] theorem State.deleteSlip_out (s : State) (t : TribId) :
    (s.deleteSlip t).out = s.out := rfl

@[simp] theorem State.deleteSlip_pending (s : State) (t : TribId) :
    (s.deleteSlip t).pending = s.pending := rfl

@[simp] theorem State.deleteSlip_inputs (s : State) (t : TribId) :
    (s.deleteSlip t).inputs = s.inputs := rfl

@[simp] theorem State.deleteSlip_railDue (s : State) (t : TribId) :
    (s.deleteSlip t).railDue = s.railDue := rfl

@[simp] theorem State.deleteSlip_choiceSeq (s : State) (t : TribId) :
    (s.deleteSlip t).choiceSeq = s.choiceSeq := rfl

@[simp] theorem State.deleteSlip_trib_rx (s : State) (t : TribId) (v : TribId) :
    ((s.deleteSlip t).trib v).rx = (s.trib v).rx := by
  simp only [State.deleteSlip, State.trib_setFree, State.trib_raise, State.trib_modRecord,
    State.trib_modStore]; split <;> rfl

@[simp] theorem State.deleteSlip_trib_storeState (s : State) (t : TribId) (v : TribId) :
    ((s.deleteSlip t).trib v).storeState = (s.trib v).storeState := by
  simp only [State.deleteSlip, State.trib_setFree, State.trib_raise, State.trib_modRecord,
    State.trib_modStore]; split <;> rfl

@[simp] theorem State.deleteSlip_trib_repeatRun (s : State) (t : TribId) (v : TribId) :
    ((s.deleteSlip t).trib v).repeatRun = (s.trib v).repeatRun := by
  simp only [State.deleteSlip, State.trib_setFree, State.trib_raise, State.trib_modRecord,
    State.trib_modStore]; split <;> rfl

@[simp] theorem State.deleteSlip_trib_outFrame (s : State) (t : TribId) (v : TribId) :
    ((s.deleteSlip t).trib v).outFrame = (s.trib v).outFrame := by
  simp only [State.deleteSlip, State.trib_setFree, State.trib_raise, State.trib_modRecord,
    State.trib_modStore]; split <;> rfl

/-! State.overflowCheck -/

@[simp] theorem State.overflowCheck_pins (s : State) (t : TribId) :
    (s.overflowCheck t).pins = s.pins := by
  unfold State.overflowCheck; split <;> simp

@[simp] theorem State.overflowCheck_straps (s : State) (t : TribId) :
    (s.overflowCheck t).straps = s.straps := by
  unfold State.overflowCheck; split <;> simp

@[simp] theorem State.overflowCheck_ftu (s : State) (t : TribId) :
    (s.overflowCheck t).ftu = s.ftu := by
  unfold State.overflowCheck; split <;> simp

@[simp] theorem State.overflowCheck_monA (s : State) (t : TribId) :
    (s.overflowCheck t).monA = s.monA := by
  unfold State.overflowCheck; split <;> simp

@[simp] theorem State.overflowCheck_monB (s : State) (t : TribId) :
    (s.overflowCheck t).monB = s.monB := by
  unfold State.overflowCheck; split <;> simp

@[simp] theorem State.overflowCheck_selector (s : State) (t : TribId) :
    (s.overflowCheck t).selector = s.selector := by
  unfold State.overflowCheck; split <;> simp

@[simp] theorem State.overflowCheck_modes (s : State) (t : TribId) :
    (s.overflowCheck t).modes = s.modes := by
  unfold State.overflowCheck; split <;> simp

@[simp] theorem State.overflowCheck_rail (s : State) (t : TribId) :
    (s.overflowCheck t).rail = s.rail := by
  unfold State.overflowCheck; split <;> simp

@[simp] theorem State.overflowCheck_listen (s : State) (t : TribId) :
    (s.overflowCheck t).listen = s.listen := by
  unfold State.overflowCheck; split <;> simp

@[simp] theorem State.overflowCheck_counters (s : State) (t : TribId) :
    (s.overflowCheck t).counters = s.counters := by
  unfold State.overflowCheck; split <;> simp

@[simp] theorem State.overflowCheck_maint (s : State) (t : TribId) :
    (s.overflowCheck t).maint = s.maint := by
  unfold State.overflowCheck; split <;> simp

@[simp] theorem State.overflowCheck_out (s : State) (t : TribId) :
    (s.overflowCheck t).out = s.out := by
  unfold State.overflowCheck; split <;> simp

@[simp] theorem State.overflowCheck_pending (s : State) (t : TribId) :
    (s.overflowCheck t).pending = s.pending := by
  unfold State.overflowCheck; split <;> simp

@[simp] theorem State.overflowCheck_inputs (s : State) (t : TribId) :
    (s.overflowCheck t).inputs = s.inputs := by
  unfold State.overflowCheck; split <;> simp

@[simp] theorem State.overflowCheck_railDue (s : State) (t : TribId) :
    (s.overflowCheck t).railDue = s.railDue := by
  unfold State.overflowCheck; split <;> simp

@[simp] theorem State.overflowCheck_choiceSeq (s : State) (t : TribId) :
    (s.overflowCheck t).choiceSeq = s.choiceSeq := by
  unfold State.overflowCheck; split <;> simp

@[simp] theorem State.overflowCheck_trib_rx (s : State) (t : TribId) (v : TribId) :
    ((s.overflowCheck t).trib v).rx = (s.trib v).rx := by
  unfold State.overflowCheck; split <;> simp

@[simp] theorem State.overflowCheck_trib_storeState (s : State) (t : TribId) (v : TribId) :
    ((s.overflowCheck t).trib v).storeState = (s.trib v).storeState := by
  unfold State.overflowCheck; split <;> simp

@[simp] theorem State.overflowCheck_trib_repeatRun (s : State) (t : TribId) (v : TribId) :
    ((s.overflowCheck t).trib v).repeatRun = (s.trib v).repeatRun := by
  unfold State.overflowCheck; split <;> simp

@[simp] theorem State.overflowCheck_trib_outFrame (s : State) (t : TribId) (v : TribId) :
    ((s.overflowCheck t).trib v).outFrame = (s.trib v).outFrame := by
  unfold State.overflowCheck; split <;> simp

/-! State.appendFilled -/

@[simp] theorem State.appendFilled_pins (s : State) (t : TribId) (m : Bool) :
    (s.appendFilled t m).pins = s.pins := by
  unfold State.appendFilled; split <;> rfl

@[simp] theorem State.appendFilled_straps (s : State) (t : TribId) (m : Bool) :
    (s.appendFilled t m).straps = s.straps := by
  unfold State.appendFilled; split <;> rfl

@[simp] theorem State.appendFilled_ftu (s : State) (t : TribId) (m : Bool) :
    (s.appendFilled t m).ftu = s.ftu := by
  unfold State.appendFilled; split <;> rfl

@[simp] theorem State.appendFilled_monA (s : State) (t : TribId) (m : Bool) :
    (s.appendFilled t m).monA = s.monA := by
  unfold State.appendFilled; split <;> rfl

@[simp] theorem State.appendFilled_monB (s : State) (t : TribId) (m : Bool) :
    (s.appendFilled t m).monB = s.monB := by
  unfold State.appendFilled; split <;> rfl

@[simp] theorem State.appendFilled_selector (s : State) (t : TribId) (m : Bool) :
    (s.appendFilled t m).selector = s.selector := by
  unfold State.appendFilled; split <;> rfl

@[simp] theorem State.appendFilled_modes (s : State) (t : TribId) (m : Bool) :
    (s.appendFilled t m).modes = s.modes := by
  unfold State.appendFilled; split <;> rfl

@[simp] theorem State.appendFilled_rail (s : State) (t : TribId) (m : Bool) :
    (s.appendFilled t m).rail = s.rail := by
  unfold State.appendFilled; split <;> rfl

@[simp] theorem State.appendFilled_listen (s : State) (t : TribId) (m : Bool) :
    (s.appendFilled t m).listen = s.listen := by
  unfold State.appendFilled; split <;> rfl

@[simp] theorem State.appendFilled_counters (s : State) (t : TribId) (m : Bool) :
    (s.appendFilled t m).counters = s.counters := by
  unfold State.appendFilled; split <;> rfl

@[simp] theorem State.appendFilled_maint (s : State) (t : TribId) (m : Bool) :
    (s.appendFilled t m).maint = s.maint := by
  unfold State.appendFilled; split <;> rfl

@[simp] theorem State.appendFilled_out (s : State) (t : TribId) (m : Bool) :
    (s.appendFilled t m).out = s.out := by
  unfold State.appendFilled; split <;> rfl

@[simp] theorem State.appendFilled_pending (s : State) (t : TribId) (m : Bool) :
    (s.appendFilled t m).pending = s.pending := by
  unfold State.appendFilled; split <;> rfl

@[simp] theorem State.appendFilled_inputs (s : State) (t : TribId) (m : Bool) :
    (s.appendFilled t m).inputs = s.inputs := by
  unfold State.appendFilled; split <;> rfl

@[simp] theorem State.appendFilled_railDue (s : State) (t : TribId) (m : Bool) :
    (s.appendFilled t m).railDue = s.railDue := by
  unfold State.appendFilled; split <;> rfl

@[simp] theorem State.appendFilled_choiceSeq (s : State) (t : TribId) (m : Bool) :
    (s.appendFilled t m).choiceSeq = s.choiceSeq := by
  unfold State.appendFilled; split <;> rfl

@[simp] theorem State.appendFilled_trib_rx (s : State) (t : TribId) (m : Bool) (v : TribId) :
    ((s.appendFilled t m).trib v).rx = (s.trib v).rx := by
  unfold State.appendFilled; split
  · rfl
  · simp only [State.trib_modStore]; split <;> rfl

@[simp] theorem State.appendFilled_trib_storeState (s : State) (t : TribId) (m : Bool) (v : TribId) :
    ((s.appendFilled t m).trib v).storeState = (s.trib v).storeState := by
  unfold State.appendFilled; split
  · rfl
  · simp only [State.trib_modStore]; split <;> rfl

@[simp] theorem State.appendFilled_trib_repeatRun (s : State) (t : TribId) (m : Bool) (v : TribId) :
    ((s.appendFilled t m).trib v).repeatRun = (s.trib v).repeatRun := by
  unfold State.appendFilled; split
  · rfl
  · simp only [State.trib_modStore]; split <;> rfl

@[simp] theorem State.appendFilled_trib_outFrame (s : State) (t : TribId) (m : Bool) (v : TribId) :
    ((s.appendFilled t m).trib v).outFrame = (s.trib v).outFrame := by
  unfold State.appendFilled; split
  · rfl
  · simp only [State.trib_modStore]; split <;> rfl

/-! State.ownDrop -/

@[simp] theorem State.ownDrop_pins (s : State) (t : TribId) :
    (s.ownDrop t).pins = s.pins := rfl

@[simp] theorem State.ownDrop_straps (s : State) (t : TribId) :
    (s.ownDrop t).straps = s.straps := rfl

@[simp] theorem State.ownDrop_ftu (s : State) (t : TribId) :
    (s.ownDrop t).ftu = s.ftu := rfl

@[simp] theorem State.ownDrop_monA (s : State) (t : TribId) :
    (s.ownDrop t).monA = s.monA := rfl

@[simp] theorem State.ownDrop_monB (s : State) (t : TribId) :
    (s.ownDrop t).monB = s.monB := rfl

@[simp] theorem State.ownDrop_selector (s : State) (t : TribId) :
    (s.ownDrop t).selector = s.selector := rfl

@[simp] theorem State.ownDrop_modes (s : State) (t : TribId) :
    (s.ownDrop t).modes = s.modes := rfl

@[simp] theorem State.ownDrop_rail (s : State) (t : TribId) :
    (s.ownDrop t).rail = s.rail := rfl

@[simp] theorem State.ownDrop_listen (s : State) (t : TribId) :
    (s.ownDrop t).listen = s.listen := rfl

@[simp] theorem State.ownDrop_counters (s : State) (t : TribId) :
    (s.ownDrop t).counters = s.counters := rfl

@[simp] theorem State.ownDrop_maint (s : State) (t : TribId) :
    (s.ownDrop t).maint = s.maint := rfl

@[simp] theorem State.ownDrop_out (s : State) (t : TribId) :
    (s.ownDrop t).out = s.out := rfl

@[simp] theorem State.ownDrop_pending (s : State) (t : TribId) :
    (s.ownDrop t).pending = s.pending := rfl

@[simp] theorem State.ownDrop_inputs (s : State) (t : TribId) :
    (s.ownDrop t).inputs = s.inputs := rfl

@[simp] theorem State.ownDrop_railDue (s : State) (t : TribId) :
    (s.ownDrop t).railDue = s.railDue := rfl

@[simp] theorem State.ownDrop_choiceSeq (s : State) (t : TribId) :
    (s.ownDrop t).choiceSeq = s.choiceSeq := rfl

@[simp] theorem State.ownDrop_trib_rx (s : State) (t : TribId) (v : TribId) :
    ((s.ownDrop t).trib v).rx = (s.trib v).rx := by
  simp only [State.ownDrop, State.trib_raise, State.trib_modRecord, State.trib_modStore]; split <;> rfl

@[simp] theorem State.ownDrop_trib_storeState (s : State) (t : TribId) (v : TribId) :
    ((s.ownDrop t).trib v).storeState = (s.trib v).storeState := by
  simp only [State.ownDrop, State.trib_raise, State.trib_modRecord, State.trib_modStore]; split <;> rfl

@[simp] theorem State.ownDrop_trib_repeatRun (s : State) (t : TribId) (v : TribId) :
    ((s.ownDrop t).trib v).repeatRun = (s.trib v).repeatRun := by
  simp only [State.ownDrop, State.trib_raise, State.trib_modRecord, State.trib_modStore]; split <;> rfl

@[simp] theorem State.ownDrop_trib_outFrame (s : State) (t : TribId) (v : TribId) :
    ((s.ownDrop t).trib v).outFrame = (s.trib v).outFrame := by
  simp only [State.ownDrop, State.trib_raise, State.trib_modRecord, State.trib_modStore]; split <;> rfl

/-! State.evict -/

@[simp] theorem State.evict_pins (s : State) (t : TribId) (w : TribId) :
    (s.evict t w).pins = s.pins := rfl

@[simp] theorem State.evict_straps (s : State) (t : TribId) (w : TribId) :
    (s.evict t w).straps = s.straps := rfl

@[simp] theorem State.evict_ftu (s : State) (t : TribId) (w : TribId) :
    (s.evict t w).ftu = s.ftu := rfl

@[simp] theorem State.evict_monA (s : State) (t : TribId) (w : TribId) :
    (s.evict t w).monA = s.monA := rfl

@[simp] theorem State.evict_monB (s : State) (t : TribId) (w : TribId) :
    (s.evict t w).monB = s.monB := rfl

@[simp] theorem State.evict_selector (s : State) (t : TribId) (w : TribId) :
    (s.evict t w).selector = s.selector := rfl

@[simp] theorem State.evict_modes (s : State) (t : TribId) (w : TribId) :
    (s.evict t w).modes = s.modes := rfl

@[simp] theorem State.evict_rail (s : State) (t : TribId) (w : TribId) :
    (s.evict t w).rail = s.rail := rfl

@[simp] theorem State.evict_listen (s : State) (t : TribId) (w : TribId) :
    (s.evict t w).listen = s.listen := rfl

@[simp] theorem State.evict_counters (s : State) (t : TribId) (w : TribId) :
    (s.evict t w).counters = s.counters := rfl

@[simp] theorem State.evict_maint (s : State) (t : TribId) (w : TribId) :
    (s.evict t w).maint = s.maint := rfl

@[simp] theorem State.evict_out (s : State) (t : TribId) (w : TribId) :
    (s.evict t w).out = s.out := rfl

@[simp] theorem State.evict_pending (s : State) (t : TribId) (w : TribId) :
    (s.evict t w).pending = s.pending := rfl

@[simp] theorem State.evict_inputs (s : State) (t : TribId) (w : TribId) :
    (s.evict t w).inputs = s.inputs := rfl

@[simp] theorem State.evict_railDue (s : State) (t : TribId) (w : TribId) :
    (s.evict t w).railDue = s.railDue := rfl

@[simp] theorem State.evict_choiceSeq (s : State) (t : TribId) (w : TribId) :
    (s.evict t w).choiceSeq = s.choiceSeq := rfl

@[simp] theorem State.evict_trib_rx (s : State) (t : TribId) (w : TribId) (v : TribId) :
    ((s.evict t w).trib v).rx = (s.trib v).rx := by
  simp only [State.evict, State.trib_raise, State.trib_modRecord, State.trib_modStore]
  (repeat' split) <;> rfl

@[simp] theorem State.evict_trib_storeState (s : State) (t : TribId) (w : TribId) (v : TribId) :
    ((s.evict t w).trib v).storeState = (s.trib v).storeState := by
  simp only [State.evict, State.trib_raise, State.trib_modRecord, State.trib_modStore]
  (repeat' split) <;> rfl

@[simp] theorem State.evict_trib_repeatRun (s : State) (t : TribId) (w : TribId) (v : TribId) :
    ((s.evict t w).trib v).repeatRun = (s.trib v).repeatRun := by
  simp only [State.evict, State.trib_raise, State.trib_modRecord, State.trib_modStore]
  (repeat' split) <;> rfl

@[simp] theorem State.evict_trib_outFrame (s : State) (t : TribId) (w : TribId) (v : TribId) :
    ((s.evict t w).trib v).outFrame = (s.trib v).outFrame := by
  simp only [State.evict, State.trib_raise, State.trib_modRecord, State.trib_modStore]
  (repeat' split) <;> rfl

/-! State.cellRequest -/

@[simp] theorem State.cellRequest_pins (s : State) (t : TribId) :
    (s.cellRequest t).pins = s.pins := by
  unfold State.cellRequest; (repeat' split) <;> simp

@[simp] theorem State.cellRequest_straps (s : State) (t : TribId) :
    (s.cellRequest t).straps = s.straps := by
  unfold State.cellRequest; (repeat' split) <;> simp

@[simp] theorem State.cellRequest_ftu (s : State) (t : TribId) :
    (s.cellRequest t).ftu = s.ftu := by
  unfold State.cellRequest; (repeat' split) <;> simp

@[simp] theorem State.cellRequest_monA (s : State) (t : TribId) :
    (s.cellRequest t).monA = s.monA := by
  unfold State.cellRequest; (repeat' split) <;> simp

@[simp] theorem State.cellRequest_monB (s : State) (t : TribId) :
    (s.cellRequest t).monB = s.monB := by
  unfold State.cellRequest; (repeat' split) <;> simp

@[simp] theorem State.cellRequest_selector (s : State) (t : TribId) :
    (s.cellRequest t).selector = s.selector := by
  unfold State.cellRequest; (repeat' split) <;> simp

@[simp] theorem State.cellRequest_modes (s : State) (t : TribId) :
    (s.cellRequest t).modes = s.modes := by
  unfold State.cellRequest; (repeat' split) <;> simp

@[simp] theorem State.cellRequest_rail (s : State) (t : TribId) :
    (s.cellRequest t).rail = s.rail := by
  unfold State.cellRequest; (repeat' split) <;> simp

@[simp] theorem State.cellRequest_listen (s : State) (t : TribId) :
    (s.cellRequest t).listen = s.listen := by
  unfold State.cellRequest; (repeat' split) <;> simp

@[simp] theorem State.cellRequest_counters (s : State) (t : TribId) :
    (s.cellRequest t).counters = s.counters := by
  unfold State.cellRequest; (repeat' split) <;> simp

@[simp] theorem State.cellRequest_maint (s : State) (t : TribId) :
    (s.cellRequest t).maint = s.maint := by
  unfold State.cellRequest; (repeat' split) <;> simp

@[simp] theorem State.cellRequest_out (s : State) (t : TribId) :
    (s.cellRequest t).out = s.out := by
  unfold State.cellRequest; (repeat' split) <;> simp

@[simp] theorem State.cellRequest_pending (s : State) (t : TribId) :
    (s.cellRequest t).pending = s.pending := by
  unfold State.cellRequest; (repeat' split) <;> simp

@[simp] theorem State.cellRequest_inputs (s : State) (t : TribId) :
    (s.cellRequest t).inputs = s.inputs := by
  unfold State.cellRequest; (repeat' split) <;> simp

@[simp] theorem State.cellRequest_railDue (s : State) (t : TribId) :
    (s.cellRequest t).railDue = s.railDue := by
  unfold State.cellRequest; (repeat' split) <;> simp

@[simp] theorem State.cellRequest_choiceSeq (s : State) (t : TribId) :
    (s.cellRequest t).choiceSeq = s.choiceSeq := by
  unfold State.cellRequest; (repeat' split) <;> simp

@[simp] theorem State.cellRequest_trib_rx (s : State) (t : TribId) (v : TribId) :
    ((s.cellRequest t).trib v).rx = (s.trib v).rx := by
  unfold State.cellRequest; (repeat' split) <;> simp

@[simp] theorem State.cellRequest_trib_storeState (s : State) (t : TribId) (v : TribId) :
    ((s.cellRequest t).trib v).storeState = (s.trib v).storeState := by
  unfold State.cellRequest; (repeat' split) <;> simp

@[simp] theorem State.cellRequest_trib_repeatRun (s : State) (t : TribId) (v : TribId) :
    ((s.cellRequest t).trib v).repeatRun = (s.trib v).repeatRun := by
  unfold State.cellRequest; (repeat' split) <;> simp

@[simp] theorem State.cellRequest_trib_outFrame (s : State) (t : TribId) (v : TribId) :
    ((s.cellRequest t).trib v).outFrame = (s.trib v).outFrame := by
  unfold State.cellRequest; (repeat' split) <;> simp

/-! State.completeFrame -/

@[simp] theorem State.completeFrame_pins (s : State) (t : TribId) (m : Bool) :
    (s.completeFrame t m).pins = s.pins := by
  simp [State.completeFrame]

@[simp] theorem State.completeFrame_straps (s : State) (t : TribId) (m : Bool) :
    (s.completeFrame t m).straps = s.straps := by
  simp [State.completeFrame]

@[simp] theorem State.completeFrame_ftu (s : State) (t : TribId) (m : Bool) :
    (s.completeFrame t m).ftu = s.ftu := by
  simp [State.completeFrame]

@[simp] theorem State.completeFrame_monA (s : State) (t : TribId) (m : Bool) :
    (s.completeFrame t m).monA = s.monA := by
  simp [State.completeFrame]

@[simp] theorem State.completeFrame_monB (s : State) (t : TribId) (m : Bool) :
    (s.completeFrame t m).monB = s.monB := by
  simp [State.completeFrame]

@[simp] theorem State.completeFrame_selector (s : State) (t : TribId) (m : Bool) :
    (s.completeFrame t m).selector = s.selector := by
  simp [State.completeFrame]

@[simp] theorem State.completeFrame_modes (s : State) (t : TribId) (m : Bool) :
    (s.completeFrame t m).modes = s.modes := by
  simp [State.completeFrame]

@[simp] theorem State.completeFrame_rail (s : State) (t : TribId) (m : Bool) :
    (s.completeFrame t m).rail = s.rail := by
  simp [State.completeFrame]

@[simp] theorem State.completeFrame_listen (s : State) (t : TribId) (m : Bool) :
    (s.completeFrame t m).listen = s.listen := by
  simp [State.completeFrame]

@[simp] theorem State.completeFrame_counters (s : State) (t : TribId) (m : Bool) :
    (s.completeFrame t m).counters = s.counters := by
  simp [State.completeFrame]

@[simp] theorem State.completeFrame_maint (s : State) (t : TribId) (m : Bool) :
    (s.completeFrame t m).maint = s.maint := by
  simp [State.completeFrame]

@[simp] theorem State.completeFrame_out (s : State) (t : TribId) (m : Bool) :
    (s.completeFrame t m).out = s.out := by
  simp [State.completeFrame]

@[simp] theorem State.completeFrame_pending (s : State) (t : TribId) (m : Bool) :
    (s.completeFrame t m).pending = s.pending := by
  simp [State.completeFrame]

@[simp] theorem State.completeFrame_inputs (s : State) (t : TribId) (m : Bool) :
    (s.completeFrame t m).inputs = s.inputs := by
  simp [State.completeFrame]

@[simp] theorem State.completeFrame_railDue (s : State) (t : TribId) (m : Bool) :
    (s.completeFrame t m).railDue = s.railDue := by
  simp [State.completeFrame]

@[simp] theorem State.completeFrame_choiceSeq (s : State) (t : TribId) (m : Bool) :
    (s.completeFrame t m).choiceSeq = s.choiceSeq := by
  simp [State.completeFrame]

@[simp] theorem State.completeFrame_trib_rx (s : State) (t : TribId) (m : Bool) (v : TribId) :
    ((s.completeFrame t m).trib v).rx = (s.trib v).rx := by
  simp [State.completeFrame]

@[simp] theorem State.completeFrame_trib_storeState (s : State) (t : TribId) (m : Bool) (v : TribId) :
    ((s.completeFrame t m).trib v).storeState = (s.trib v).storeState := by
  simp [State.completeFrame]

@[simp] theorem State.completeFrame_trib_repeatRun (s : State) (t : TribId) (m : Bool) (v : TribId) :
    ((s.completeFrame t m).trib v).repeatRun = (s.trib v).repeatRun := by
  simp [State.completeFrame]

@[simp] theorem State.completeFrame_trib_outFrame (s : State) (t : TribId) (m : Bool) (v : TribId) :
    ((s.completeFrame t m).trib v).outFrame = (s.trib v).outFrame := by
  simp [State.completeFrame]

/-! What a cell request can do (R28 to R32) -/

/-- A cell request grants from the free list, evicts from its victim, or drops a frame of its own. -/
theorem State.cellRequest_cases (s : State) (t : TribId) :
    ((s.holdings t < 3 ∨ s.unmet + 1 ≤ s.free) ∧ s.cellRequest t = s.grant t) ∨
    (3 ≤ s.holdings t ∧ s.free < s.unmet + 1 ∧
      ((∃ v, s.victim t = some v ∧ s.cellRequest t = s.evict t v) ∨
        (s.victim t = none ∧ s.cellRequest t = s.ownDrop t))) := by
  by_cases h1 : s.holdings t < 3
  · exact .inl ⟨.inl h1, by simp [State.cellRequest, Config.floorCells, h1]⟩
  by_cases h2 : s.unmet + 1 ≤ s.free
  · exact .inl ⟨.inr h2, by simp [State.cellRequest, h2]⟩
  refine .inr ⟨by omega, by omega, ?_⟩
  cases h3 : s.victim t with
  | some v => exact .inl ⟨v, rfl, by simp [State.cellRequest, Config.floorCells, h1, h2, h3]⟩
  | none => exact .inr ⟨rfl, by simp [State.cellRequest, Config.floorCells, h1, h2, h3]⟩

end Sys2Proof.Machine
end

