-- ==== Sys2Proof/Laws/Office.lean ====
section
/-! SUPPORT. What each block's part of a boundary, of a close and of a reference event leaves alone, field by
field. -/

namespace Sys2Proof.Machine

@[simp] theorem applyWhen_true (f : State → State) (s : State) : applyWhen true f s = f s := rfl

@[simp] theorem applyWhen_false (f : State → State) (s : State) : applyWhen false f s = s := rfl

@[simp] theorem applyWhen_not (b : Bool) (f : State → State) (s : State) :
    applyWhen (!b) f s = if b then s else f s := by cases b <;> rfl

/-- The meaning of a whenRunning command at a station out of reset. -/
@[simp] theorem whenRunning_running {f : State → State} {s : State} (h : s.running = true) :
    whenRunning f s = f s := by simp [whenRunning, h]

/-- The meaning of a whenRunning command while RSTn is asserted (R155). -/
@[simp] theorem whenRunning_reset {f : State → State} {s : State} (h : s.running = false) :
    whenRunning f s = s := by simp [whenRunning, h]

/-! State.closeRepeat -/

@[simp] theorem State.closeRepeat_pins (s : State) (t : TribId) :
    (s.closeRepeat t).pins = s.pins := by
  unfold State.closeRepeat; split <;> rfl

@[simp] theorem State.closeRepeat_straps (s : State) (t : TribId) :
    (s.closeRepeat t).straps = s.straps := by
  unfold State.closeRepeat; split <;> rfl

@[simp] theorem State.closeRepeat_free (s : State) (t : TribId) :
    (s.closeRepeat t).free = s.free := by
  unfold State.closeRepeat; split <;> rfl

@[simp] theorem State.closeRepeat_counters (s : State) (t : TribId) :
    (s.closeRepeat t).counters = s.counters := by
  unfold State.closeRepeat; split <;> rfl

@[simp] theorem State.closeRepeat_ftu (s : State) (t : TribId) :
    (s.closeRepeat t).ftu = s.ftu := by
  unfold State.closeRepeat; split <;> rfl

@[simp] theorem State.closeRepeat_monA (s : State) (t : TribId) :
    (s.closeRepeat t).monA = s.monA := by
  unfold State.closeRepeat; split <;> rfl

@[simp] theorem State.closeRepeat_monB (s : State) (t : TribId) :
    (s.closeRepeat t).monB = s.monB := by
  unfold State.closeRepeat; split <;> rfl

@[simp] theorem State.closeRepeat_selector (s : State) (t : TribId) :
    (s.closeRepeat t).selector = s.selector := by
  unfold State.closeRepeat; split <;> rfl

@[simp] theorem State.closeRepeat_modes (s : State) (t : TribId) :
    (s.closeRepeat t).modes = s.modes := by
  unfold State.closeRepeat; split <;> rfl

@[simp] theorem State.closeRepeat_rail (s : State) (t : TribId) :
    (s.closeRepeat t).rail = s.rail := by
  unfold State.closeRepeat; split <;> rfl

@[simp] theorem State.closeRepeat_listen (s : State) (t : TribId) :
    (s.closeRepeat t).listen = s.listen := by
  unfold State.closeRepeat; split <;> rfl

@[simp] theorem State.closeRepeat_flags (s : State) (t : TribId) :
    (s.closeRepeat t).flags = s.flags := by
  unfold State.closeRepeat; split <;> rfl

@[simp] theorem State.closeRepeat_maint (s : State) (t : TribId) :
    (s.closeRepeat t).maint = s.maint := by
  unfold State.closeRepeat; split <;> rfl

@[simp] theorem State.closeRepeat_out (s : State) (t : TribId) :
    (s.closeRepeat t).out = s.out := by
  unfold State.closeRepeat; split <;> rfl

@[simp] theorem State.closeRepeat_pending (s : State) (t : TribId) :
    (s.closeRepeat t).pending = s.pending := by
  unfold State.closeRepeat; split <;> rfl

@[simp] theorem State.closeRepeat_inputs (s : State) (t : TribId) :
    (s.closeRepeat t).inputs = s.inputs := by
  unfold State.closeRepeat; split <;> rfl

@[simp] theorem State.closeRepeat_railDue (s : State) (t : TribId) :
    (s.closeRepeat t).railDue = s.railDue := by
  unfold State.closeRepeat; split <;> rfl

@[simp] theorem State.closeRepeat_choiceSeq (s : State) (t : TribId) :
    (s.closeRepeat t).choiceSeq = s.choiceSeq := by
  unfold State.closeRepeat; split <;> rfl

/-! State.sendCell -/

@[simp] theorem State.sendCell_pins (s : State) (t : TribId) :
    (s.sendCell t).pins = s.pins := rfl

@[simp] theorem State.sendCell_straps (s : State) (t : TribId) :
    (s.sendCell t).straps = s.straps := rfl

@[simp] theorem State.sendCell_free (s : State) (t : TribId) :
    (s.sendCell t).free = s.free := rfl

@[simp] theorem State.sendCell_counters (s : State) (t : TribId) :
    (s.sendCell t).counters = s.counters := rfl

@[simp] theorem State.sendCell_ftu (s : State) (t : TribId) :
    (s.sendCell t).ftu = s.ftu := rfl

@[simp] theorem State.sendCell_monA (s : State) (t : TribId) :
    (s.sendCell t).monA = s.monA := rfl

@[simp] theorem State.sendCell_monB (s : State) (t : TribId) :
    (s.sendCell t).monB = s.monB := rfl

@[simp] theorem State.sendCell_selector (s : State) (t : TribId) :
    (s.sendCell t).selector = s.selector := rfl

@[simp] theorem State.sendCell_modes (s : State) (t : TribId) :
    (s.sendCell t).modes = s.modes := rfl

@[simp] theorem State.sendCell_rail (s : State) (t : TribId) :
    (s.sendCell t).rail = s.rail := rfl

@[simp] theorem State.sendCell_listen (s : State) (t : TribId) :
    (s.sendCell t).listen = s.listen := rfl

@[simp] theorem State.sendCell_flags (s : State) (t : TribId) :
    (s.sendCell t).flags = s.flags := rfl

@[simp] theorem State.sendCell_maint (s : State) (t : TribId) :
    (s.sendCell t).maint = s.maint := rfl

@[simp] theorem State.sendCell_out (s : State) (t : TribId) :
    (s.sendCell t).out = s.out := rfl

@[simp] theorem State.sendCell_pending (s : State) (t : TribId) :
    (s.sendCell t).pending = s.pending := rfl

@[simp] theorem State.sendCell_inputs (s : State) (t : TribId) :
    (s.sendCell t).inputs = s.inputs := rfl

@[simp] theorem State.sendCell_railDue (s : State) (t : TribId) :
    (s.sendCell t).railDue = s.railDue := rfl

@[simp] theorem State.sendCell_choiceSeq (s : State) (t : TribId) :
    (s.sendCell t).choiceSeq = s.choiceSeq := rfl

/-! State.sendFill -/

@[simp] theorem State.sendFill_pins (s : State) (t : TribId) :
    (s.sendFill t).pins = s.pins := rfl

@[simp] theorem State.sendFill_straps (s : State) (t : TribId) :
    (s.sendFill t).straps = s.straps := rfl

@[simp] theorem State.sendFill_free (s : State) (t : TribId) :
    (s.sendFill t).free = s.free := rfl

@[simp] theorem State.sendFill_counters (s : State) (t : TribId) :
    (s.sendFill t).counters = s.counters := rfl

@[simp] theorem State.sendFill_ftu (s : State) (t : TribId) :
    (s.sendFill t).ftu = s.ftu := rfl

@[simp] theorem State.sendFill_monA (s : State) (t : TribId) :
    (s.sendFill t).monA = s.monA := rfl

@[simp] theorem State.sendFill_monB (s : State) (t : TribId) :
    (s.sendFill t).monB = s.monB := rfl

@[simp] theorem State.sendFill_selector (s : State) (t : TribId) :
    (s.sendFill t).selector = s.selector := rfl

@[simp] theorem State.sendFill_modes (s : State) (t : TribId) :
    (s.sendFill t).modes = s.modes := rfl

@[simp] theorem State.sendFill_rail (s : State) (t : TribId) :
    (s.sendFill t).rail = s.rail := rfl

@[simp] theorem State.sendFill_listen (s : State) (t : TribId) :
    (s.sendFill t).listen = s.listen := rfl

@[simp] theorem State.sendFill_flags (s : State) (t : TribId) :
    (s.sendFill t).flags = s.flags := rfl

@[simp] theorem State.sendFill_maint (s : State) (t : TribId) :
    (s.sendFill t).maint = s.maint := rfl

@[simp] theorem State.sendFill_out (s : State) (t : TribId) :
    (s.sendFill t).out = s.out := rfl

@[simp] theorem State.sendFill_pending (s : State) (t : TribId) :
    (s.sendFill t).pending = s.pending := rfl

@[simp] theorem State.sendFill_inputs (s : State) (t : TribId) :
    (s.sendFill t).inputs = s.inputs := rfl

@[simp] theorem State.sendFill_railDue (s : State) (t : TribId) :
    (s.sendFill t).railDue = s.railDue := rfl

@[simp] theorem State.sendFill_choiceSeq (s : State) (t : TribId) :
    (s.sendFill t).choiceSeq = s.choiceSeq := rfl

/-! State.applyReadout -/

@[simp] theorem State.applyReadout_pins (s : State) (t : TribId) (n : Nat) (a : ReadoutAction) :
    (s.applyReadout t n a).pins = s.pins := by
  cases a <;> simp [State.applyReadout]

@[simp] theorem State.applyReadout_straps (s : State) (t : TribId) (n : Nat) (a : ReadoutAction) :
    (s.applyReadout t n a).straps = s.straps := by
  cases a <;> simp [State.applyReadout]

@[simp] theorem State.applyReadout_counters (s : State) (t : TribId) (n : Nat) (a : ReadoutAction) :
    (s.applyReadout t n a).counters = s.counters := by
  cases a <;> simp [State.applyReadout]

@[simp] theorem State.applyReadout_ftu (s : State) (t : TribId) (n : Nat) (a : ReadoutAction) :
    (s.applyReadout t n a).ftu = s.ftu := by
  cases a <;> simp [State.applyReadout]

@[simp] theorem State.applyReadout_monA (s : State) (t : TribId) (n : Nat) (a : ReadoutAction) :
    (s.applyReadout t n a).monA = s.monA := by
  cases a <;> simp [State.applyReadout]

@[simp] theorem State.applyReadout_monB (s : State) (t : TribId) (n : Nat) (a : ReadoutAction) :
    (s.applyReadout t n a).monB = s.monB := by
  cases a <;> simp [State.applyReadout]

@[simp] theorem State.applyReadout_selector (s : State) (t : TribId) (n : Nat) (a : ReadoutAction) :
    (s.applyReadout t n a).selector = s.selector := by
  cases a <;> simp [State.applyReadout]

@[simp] theorem State.applyReadout_modes (s : State) (t : TribId) (n : Nat) (a : ReadoutAction) :
    (s.applyReadout t n a).modes = s.modes := by
  cases a <;> simp [State.applyReadout]

@[simp] theorem State.applyReadout_rail (s : State) (t : TribId) (n : Nat) (a : ReadoutAction) :
    (s.applyReadout t n a).rail = s.rail := by
  cases a <;> simp [State.applyReadout]

@[simp] theorem State.applyReadout_listen (s : State) (t : TribId) (n : Nat) (a : ReadoutAction) :
    (s.applyReadout t n a).listen = s.listen := by
  cases a <;> simp [State.applyReadout]

@[simp] theorem State.applyReadout_maint (s : State) (t : TribId) (n : Nat) (a : ReadoutAction) :
    (s.applyReadout t n a).maint = s.maint := by
  cases a <;> simp [State.applyReadout]

@[simp] theorem State.applyReadout_out (s : State) (t : TribId) (n : Nat) (a : ReadoutAction) :
    (s.applyReadout t n a).out = s.out := by
  cases a <;> simp [State.applyReadout]

@[simp] theorem State.applyReadout_pending (s : State) (t : TribId) (n : Nat) (a : ReadoutAction) :
    (s.applyReadout t n a).pending = s.pending := by
  cases a <;> simp [State.applyReadout]

@[simp] theorem State.applyReadout_inputs (s : State) (t : TribId) (n : Nat) (a : ReadoutAction) :
    (s.applyReadout t n a).inputs = s.inputs := by
  cases a <;> simp [State.applyReadout]

@[simp] theorem State.applyReadout_railDue (s : State) (t : TribId) (n : Nat) (a : ReadoutAction) :
    (s.applyReadout t n a).railDue = s.railDue := by
  cases a <;> simp [State.applyReadout]

@[simp] theorem State.applyReadout_choiceSeq (s : State) (t : TribId) (n : Nat) (a : ReadoutAction) :
    (s.applyReadout t n a).choiceSeq = s.choiceSeq := by
  cases a <;> simp [State.applyReadout]

/-! State.offer -/

@[simp] theorem State.offer_pins (s : State) (t : TribId) :
    (s.offer t).pins = s.pins := rfl

@[simp] theorem State.offer_straps (s : State) (t : TribId) :
    (s.offer t).straps = s.straps := rfl

@[simp] theorem State.offer_free (s : State) (t : TribId) :
    (s.offer t).free = s.free := rfl

@[simp] theorem State.offer_counters (s : State) (t : TribId) :
    (s.offer t).counters = s.counters := rfl

@[simp] theorem State.offer_ftu (s : State) (t : TribId) :
    (s.offer t).ftu = s.ftu := rfl

@[simp] theorem State.offer_monA (s : State) (t : TribId) :
    (s.offer t).monA = s.monA := rfl

@[simp] theorem State.offer_monB (s : State) (t : TribId) :
    (s.offer t).monB = s.monB := rfl

@[simp] theorem State.offer_selector (s : State) (t : TribId) :
    (s.offer t).selector = s.selector := rfl

@[simp] theorem State.offer_modes (s : State) (t : TribId) :
    (s.offer t).modes = s.modes := rfl

@[simp] theorem State.offer_rail (s : State) (t : TribId) :
    (s.offer t).rail = s.rail := rfl

@[simp] theorem State.offer_listen (s : State) (t : TribId) :
    (s.offer t).listen = s.listen := rfl

@[simp] theorem State.offer_flags (s : State) (t : TribId) :
    (s.offer t).flags = s.flags := rfl

@[simp] theorem State.offer_maint (s : State) (t : TribId) :
    (s.offer t).maint = s.maint := rfl

@[simp] theorem State.offer_out (s : State) (t : TribId) :
    (s.offer t).out = s.out := rfl

@[simp] theorem State.offer_pending (s : State) (t : TribId) :
    (s.offer t).pending = s.pending := rfl

@[simp] theorem State.offer_inputs (s : State) (t : TribId) :
    (s.offer t).inputs = s.inputs := rfl

@[simp] theorem State.offer_railDue (s : State) (t : TribId) :
    (s.offer t).railDue = s.railDue := rfl

@[simp] theorem State.offer_choiceSeq (s : State) (t : TribId) :
    (s.offer t).choiceSeq = s.choiceSeq := rfl

/-! State.readoutTrib -/

@[simp] theorem State.readoutTrib_pins (s : State) (n : Nat) (t : TribId) :
    (s.readoutTrib n t).pins = s.pins := by
  unfold State.readoutTrib; split <;> simp

@[simp] theorem State.readoutTrib_straps (s : State) (n : Nat) (t : TribId) :
    (s.readoutTrib n t).straps = s.straps := by
  unfold State.readoutTrib; split <;> simp

@[simp] theorem State.readoutTrib_counters (s : State) (n : Nat) (t : TribId) :
    (s.readoutTrib n t).counters = s.counters := by
  unfold State.readoutTrib; split <;> simp

@[simp] theorem State.readoutTrib_ftu (s : State) (n : Nat) (t : TribId) :
    (s.readoutTrib n t).ftu = s.ftu := by
  unfold State.readoutTrib; split <;> simp

@[simp] theorem State.readoutTrib_monA (s : State) (n : Nat) (t : TribId) :
    (s.readoutTrib n t).monA = s.monA := by
  unfold State.readoutTrib; split <;> simp

@[simp] theorem State.readoutTrib_monB (s : State) (n : Nat) (t : TribId) :
    (s.readoutTrib n t).monB = s.monB := by
  unfold State.readoutTrib; split <;> simp

@[simp] theorem State.readoutTrib_selector (s : State) (n : Nat) (t : TribId) :
    (s.readoutTrib n t).selector = s.selector := by
  unfold State.readoutTrib; split <;> simp

@[simp] theorem State.readoutTrib_modes (s : State) (n : Nat) (t : TribId) :
    (s.readoutTrib n t).modes = s.modes := by
  unfold State.readoutTrib; split <;> simp

@[simp] theorem State.readoutTrib_rail (s : State) (n : Nat) (t : TribId) :
    (s.readoutTrib n t).rail = s.rail := by
  unfold State.readoutTrib; split <;> simp

@[simp] theorem State.readoutTrib_listen (s : State) (n : Nat) (t : TribId) :
    (s.readoutTrib n t).listen = s.listen := by
  unfold State.readoutTrib; split <;> simp

@[simp] theorem State.readoutTrib_maint (s : State) (n : Nat) (t : TribId) :
    (s.readoutTrib n t).maint = s.maint := by
  unfold State.readoutTrib; split <;> simp

@[simp] theorem State.readoutTrib_out (s : State) (n : Nat) (t : TribId) :
    (s.readoutTrib n t).out = s.out := by
  unfold State.readoutTrib; split <;> simp

@[simp] theorem State.readoutTrib_pending (s : State) (n : Nat) (t : TribId) :
    (s.readoutTrib n t).pending = s.pending := by
  unfold State.readoutTrib; split <;> simp

@[simp] theorem State.readoutTrib_inputs (s : State) (n : Nat) (t : TribId) :
    (s.readoutTrib n t).inputs = s.inputs := by
  unfold State.readoutTrib; split <;> simp

@[simp] theorem State.readoutTrib_railDue (s : State) (n : Nat) (t : TribId) :
    (s.readoutTrib n t).railDue = s.railDue := by
  unfold State.readoutTrib; split <;> simp

@[simp] theorem State.readoutTrib_choiceSeq (s : State) (n : Nat) (t : TribId) :
    (s.readoutTrib n t).choiceSeq = s.choiceSeq := by
  unfold State.readoutTrib; split <;> simp

/-! State.readoutBoundary -/

@[simp] theorem State.readoutFold_pins (n : Nat) (l : List TribId) (s : State) :
    (l.foldl (fun s t => s.readoutTrib n t) s).pins = s.pins := by
  induction l generalizing s with
  | nil => rfl
  | cons t l ih => simp [ih]

@[simp] theorem State.readoutBoundary_pins (s : State) :
    s.readoutBoundary.pins = s.pins := by simp [State.readoutBoundary]

@[simp] theorem State.readoutFold_straps (n : Nat) (l : List TribId) (s : State) :
    (l.foldl (fun s t => s.readoutTrib n t) s).straps = s.straps := by
  induction l generalizing s with
  | nil => rfl
  | cons t l ih => simp [ih]

@[simp] theorem State.readoutBoundary_straps (s : State) :
    s.readoutBoundary.straps = s.straps := by simp [State.readoutBoundary]

@[simp] theorem State.readoutFold_counters (n : Nat) (l : List TribId) (s : State) :
    (l.foldl (fun s t => s.readoutTrib n t) s).counters = s.counters := by
  induction l generalizing s with
  | nil => rfl
  | cons t l ih => simp [ih]

@[simp] theorem State.readoutBoundary_counters (s : State) :
    s.readoutBoundary.counters = s.counters := by simp [State.readoutBoundary]

@[simp] theorem State.readoutFold_ftu (n : Nat) (l : List TribId) (s : State) :
    (l.foldl (fun s t => s.readoutTrib n t) s).ftu = s.ftu := by
  induction l generalizing s with
  | nil => rfl
  | cons t l ih => simp [ih]

@[simp] theorem State.readoutBoundary_ftu (s : State) :
    s.readoutBoundary.ftu = s.ftu := by simp [State.readoutBoundary]

@[simp] theorem State.readoutFold_monA (n : Nat) (l : List TribId) (s : State) :
    (l.foldl (fun s t => s.readoutTrib n t) s).monA = s.monA := by
  induction l generalizing s with
  | nil => rfl
  | cons t l ih => simp [ih]

@[simp] theorem State.readoutBoundary_monA (s : State) :
    s.readoutBoundary.monA = s.monA := by simp [State.readoutBoundary]

@[simp] theorem State.readoutFold_monB (n : Nat) (l : List TribId) (s : State) :
    (l.foldl (fun s t => s.readoutTrib n t) s).monB = s.monB := by
  induction l generalizing s with
  | nil => rfl
  | cons t l ih => simp [ih]

@[simp] theorem State.readoutBoundary_monB (s : State) :
    s.readoutBoundary.monB = s.monB := by simp [State.readoutBoundary]

@[simp] theorem State.readoutFold_selector (n : Nat) (l : List TribId) (s : State) :
    (l.foldl (fun s t => s.readoutTrib n t) s).selector = s.selector := by
  induction l generalizing s with
  | nil => rfl
  | cons t l ih => simp [ih]

@[simp] theorem State.readoutBoundary_selector (s : State) :
    s.readoutBoundary.selector = s.selector := by simp [State.readoutBoundary]

@[simp] theorem State.readoutFold_modes (n : Nat) (l : List TribId) (s : State) :
    (l.foldl (fun s t => s.readoutTrib n t) s).modes = s.modes := by
  induction l generalizing s with
  | nil => rfl
  | cons t l ih => simp [ih]

@[simp] theorem State.readoutBoundary_modes (s : State) :
    s.readoutBoundary.modes = s.modes := by simp [State.readoutBoundary]

@[simp] theorem State.readoutFold_rail (n : Nat) (l : List TribId) (s : State) :
    (l.foldl (fun s t => s.readoutTrib n t) s).rail = s.rail := by
  induction l generalizing s with
  | nil => rfl
  | cons t l ih => simp [ih]

@[simp] theorem State.readoutBoundary_rail (s : State) :
    s.readoutBoundary.rail = s.rail := by simp [State.readoutBoundary]

@[simp] theorem State.readoutFold_listen (n : Nat) (l : List TribId) (s : State) :
    (l.foldl (fun s t => s.readoutTrib n t) s).listen = s.listen := by
  induction l generalizing s with
  | nil => rfl
  | cons t l ih => simp [ih]

@[simp] theorem State.readoutBoundary_listen (s : State) :
    s.readoutBoundary.listen = s.listen := by simp [State.readoutBoundary]

@[simp] theorem State.readoutFold_maint (n : Nat) (l : List TribId) (s : State) :
    (l.foldl (fun s t => s.readoutTrib n t) s).maint = s.maint := by
  induction l generalizing s with
  | nil => rfl
  | cons t l ih => simp [ih]

@[simp] theorem State.readoutBoundary_maint (s : State) :
    s.readoutBoundary.maint = s.maint := by simp [State.readoutBoundary]

@[simp] theorem State.readoutFold_out (n : Nat) (l : List TribId) (s : State) :
    (l.foldl (fun s t => s.readoutTrib n t) s).out = s.out := by
  induction l generalizing s with
  | nil => rfl
  | cons t l ih => simp [ih]

@[simp] theorem State.readoutBoundary_out (s : State) :
    s.readoutBoundary.out = s.out := by simp [State.readoutBoundary]

@[simp] theorem State.readoutFold_pending (n : Nat) (l : List TribId) (s : State) :
    (l.foldl (fun s t => s.readoutTrib n t) s).pending = s.pending := by
  induction l generalizing s with
  | nil => rfl
  | cons t l ih => simp [ih]

@[simp] theorem State.readoutBoundary_pending (s : State) :
    s.readoutBoundary.pending = s.pending := by simp [State.readoutBoundary]

@[simp] theorem State.readoutFold_inputs (n : Nat) (l : List TribId) (s : State) :
    (l.foldl (fun s t => s.readoutTrib n t) s).inputs = s.inputs := by
  induction l generalizing s with
  | nil => rfl
  | cons t l ih => simp [ih]

@[simp] theorem State.readoutBoundary_inputs (s : State) :
    s.readoutBoundary.inputs = s.inputs := by simp [State.readoutBoundary]

@[simp] theorem State.readoutFold_railDue (n : Nat) (l : List TribId) (s : State) :
    (l.foldl (fun s t => s.readoutTrib n t) s).railDue = s.railDue := by
  induction l generalizing s with
  | nil => rfl
  | cons t l ih => simp [ih]

@[simp] theorem State.readoutBoundary_railDue (s : State) :
    s.readoutBoundary.railDue = s.railDue := by simp [State.readoutBoundary]

@[simp] theorem State.readoutFold_choiceSeq (n : Nat) (l : List TribId) (s : State) :
    (l.foldl (fun s t => s.readoutTrib n t) s).choiceSeq = s.choiceSeq := by
  induction l generalizing s with
  | nil => rfl
  | cons t l ih => simp [ih]

@[simp] theorem State.readoutBoundary_choiceSeq (s : State) :
    s.readoutBoundary.choiceSeq = s.choiceSeq := by simp [State.readoutBoundary]

/-! State.advancePage -/

@[simp] theorem State.advancePage_pins (s : State) :
    (s.advancePage).pins = s.pins := rfl

@[simp] theorem State.advancePage_straps (s : State) :
    (s.advancePage).straps = s.straps := rfl

@[simp] theorem State.advancePage_tribs (s : State) :
    (s.advancePage).tribs = s.tribs := rfl

@[simp] theorem State.advancePage_free (s : State) :
    (s.advancePage).free = s.free := rfl

@[simp] theorem State.advancePage_counters (s : State) :
    (s.advancePage).counters = s.counters := rfl

@[simp] theorem State.advancePage_ftu (s : State) :
    (s.advancePage).ftu = s.ftu := rfl

@[simp] theorem State.advancePage_monA (s : State) :
    (s.advancePage).monA = s.monA := rfl

@[simp] theorem State.advancePage_monB (s : State) :
    (s.advancePage).monB = s.monB := rfl

@[simp] theorem State.advancePage_selector (s : State) :
    (s.advancePage).selector = s.selector := rfl

@[simp] theorem State.advancePage_modes (s : State) :
    (s.advancePage).modes = s.modes := rfl

@[simp] theorem State.advancePage_rail (s : State) :
    (s.advancePage).rail = s.rail := rfl

@[simp] theorem State.advancePage_listen (s : State) :
    (s.advancePage).listen = s.listen := rfl

@[simp] theorem State.advancePage_flags (s : State) :
    (s.advancePage).flags = s.flags := rfl

@[simp] theorem State.advancePage_out (s : State) :
    (s.advancePage).out = s.out := rfl

@[simp] theorem State.advancePage_pending (s : State) :
    (s.advancePage).pending = s.pending := rfl

@[simp] theorem State.advancePage_inputs (s : State) :
    (s.advancePage).inputs = s.inputs := rfl

@[simp] theorem State.advancePage_railDue (s : State) :
    (s.advancePage).railDue = s.railDue := rfl

@[simp] theorem State.advancePage_choiceSeq (s : State) :
    (s.advancePage).choiceSeq = s.choiceSeq := rfl

/-! State.snapshotFlags -/

@[simp] theorem State.snapshotFlags_pins (s : State) :
    (s.snapshotFlags).pins = s.pins := rfl

@[simp] theorem State.snapshotFlags_straps (s : State) :
    (s.snapshotFlags).straps = s.straps := rfl

@[simp] theorem State.snapshotFlags_tribs (s : State) :
    (s.snapshotFlags).tribs = s.tribs := rfl

@[simp] theorem State.snapshotFlags_free (s : State) :
    (s.snapshotFlags).free = s.free := rfl

@[simp] theorem State.snapshotFlags_counters (s : State) :
    (s.snapshotFlags).counters = s.counters := rfl

@[simp] theorem State.snapshotFlags_ftu (s : State) :
    (s.snapshotFlags).ftu = s.ftu := rfl

@[simp] theorem State.snapshotFlags_monA (s : State) :
    (s.snapshotFlags).monA = s.monA := rfl

@[simp] theorem State.snapshotFlags_monB (s : State) :
    (s.snapshotFlags).monB = s.monB := rfl

@[simp] theorem State.snapshotFlags_selector (s : State) :
    (s.snapshotFlags).selector = s.selector := rfl

@[simp] theorem State.snapshotFlags_modes (s : State) :
    (s.snapshotFlags).modes = s.modes := rfl

@[simp] theorem State.snapshotFlags_rail (s : State) :
    (s.snapshotFlags).rail = s.rail := rfl

@[simp] theorem State.snapshotFlags_listen (s : State) :
    (s.snapshotFlags).listen = s.listen := rfl

@[simp] theorem State.snapshotFlags_maint (s : State) :
    (s.snapshotFlags).maint = s.maint := rfl

@[simp] theorem State.snapshotFlags_out (s : State) :
    (s.snapshotFlags).out = s.out := rfl

@[simp] theorem State.snapshotFlags_pending (s : State) :
    (s.snapshotFlags).pending = s.pending := rfl

@[simp] theorem State.snapshotFlags_inputs (s : State) :
    (s.snapshotFlags).inputs = s.inputs := rfl

@[simp] theorem State.snapshotFlags_railDue (s : State) :
    (s.snapshotFlags).railDue = s.railDue := rfl

@[simp] theorem State.snapshotFlags_choiceSeq (s : State) :
    (s.snapshotFlags).choiceSeq = s.choiceSeq := rfl

/-! State.snapshotHeader -/

@[simp] theorem State.snapshotHeader_pins (s : State) :
    (s.snapshotHeader).pins = s.pins := rfl

@[simp] theorem State.snapshotHeader_straps (s : State) :
    (s.snapshotHeader).straps = s.straps := rfl

@[simp] theorem State.snapshotHeader_tribs (s : State) :
    (s.snapshotHeader).tribs = s.tribs := rfl

@[simp] theorem State.snapshotHeader_free (s : State) :
    (s.snapshotHeader).free = s.free := rfl

@[simp] theorem State.snapshotHeader_counters (s : State) :
    (s.snapshotHeader).counters = s.counters := rfl

@[simp] theorem State.snapshotHeader_ftu (s : State) :
    (s.snapshotHeader).ftu = s.ftu := rfl

@[simp] theorem State.snapshotHeader_monA (s : State) :
    (s.snapshotHeader).monA = s.monA := rfl

@[simp] theorem State.snapshotHeader_monB (s : State) :
    (s.snapshotHeader).monB = s.monB := rfl

@[simp] theorem State.snapshotHeader_selector (s : State) :
    (s.snapshotHeader).selector = s.selector := rfl

@[simp] theorem State.snapshotHeader_modes (s : State) :
    (s.snapshotHeader).modes = s.modes := rfl

@[simp] theorem State.snapshotHeader_rail (s : State) :
    (s.snapshotHeader).rail = s.rail := rfl

@[simp] theorem State.snapshotHeader_listen (s : State) :
    (s.snapshotHeader).listen = s.listen := rfl

@[simp] theorem State.snapshotHeader_flags (s : State) :
    (s.snapshotHeader).flags = s.flags := rfl

@[simp] theorem State.snapshotHeader_out (s : State) :
    (s.snapshotHeader).out = s.out := rfl

@[simp] theorem State.snapshotHeader_pending (s : State) :
    (s.snapshotHeader).pending = s.pending := rfl

@[simp] theorem State.snapshotHeader_inputs (s : State) :
    (s.snapshotHeader).inputs = s.inputs := rfl

@[simp] theorem State.snapshotHeader_railDue (s : State) :
    (s.snapshotHeader).railDue = s.railDue := rfl

@[simp] theorem State.snapshotHeader_choiceSeq (s : State) :
    (s.snapshotHeader).choiceSeq = s.choiceSeq := rfl

/-! State.pageStart -/

@[simp] theorem State.pageStart_pins (s : State) :
    (s.pageStart).pins = s.pins := rfl

@[simp] theorem State.pageStart_straps (s : State) :
    (s.pageStart).straps = s.straps := rfl

@[simp] theorem State.pageStart_tribs (s : State) :
    (s.pageStart).tribs = s.tribs := rfl

@[simp] theorem State.pageStart_free (s : State) :
    (s.pageStart).free = s.free := rfl

@[simp] theorem State.pageStart_counters (s : State) :
    (s.pageStart).counters = s.counters := rfl

@[simp] theorem State.pageStart_ftu (s : State) :
    (s.pageStart).ftu = s.ftu := rfl

@[simp] theorem State.pageStart_monA (s : State) :
    (s.pageStart).monA = s.monA := rfl

@[simp] theorem State.pageStart_monB (s : State) :
    (s.pageStart).monB = s.monB := rfl

@[simp] theorem State.pageStart_selector (s : State) :
    (s.pageStart).selector = s.selector := rfl

@[simp] theorem State.pageStart_modes (s : State) :
    (s.pageStart).modes = s.modes := rfl

@[simp] theorem State.pageStart_rail (s : State) :
    (s.pageStart).rail = s.rail := rfl

@[simp] theorem State.pageStart_listen (s : State) :
    (s.pageStart).listen = s.listen := rfl

@[simp] theorem State.pageStart_out (s : State) :
    (s.pageStart).out = s.out := rfl

@[simp] theorem State.pageStart_pending (s : State) :
    (s.pageStart).pending = s.pending := rfl

@[simp] theorem State.pageStart_inputs (s : State) :
    (s.pageStart).inputs = s.inputs := rfl

@[simp] theorem State.pageStart_railDue (s : State) :
    (s.pageStart).railDue = s.railDue := rfl

@[simp] theorem State.pageStart_choiceSeq (s : State) :
    (s.pageStart).choiceSeq = s.choiceSeq := rfl

/-! State.loadOctets -/

@[simp] theorem State.loadOctets_pins (s : State) :
    (s.loadOctets).pins = s.pins := rfl

@[simp] theorem State.loadOctets_straps (s : State) :
    (s.loadOctets).straps = s.straps := rfl

@[simp] theorem State.loadOctets_tribs (s : State) :
    (s.loadOctets).tribs = s.tribs := rfl

@[simp] theorem State.loadOctets_free (s : State) :
    (s.loadOctets).free = s.free := rfl

@[simp] theorem State.loadOctets_counters (s : State) :
    (s.loadOctets).counters = s.counters := rfl

@[simp] theorem State.loadOctets_ftu (s : State) :
    (s.loadOctets).ftu = s.ftu := rfl

@[simp] theorem State.loadOctets_monA (s : State) :
    (s.loadOctets).monA = s.monA := rfl

@[simp] theorem State.loadOctets_monB (s : State) :
    (s.loadOctets).monB = s.monB := rfl

@[simp] theorem State.loadOctets_selector (s : State) :
    (s.loadOctets).selector = s.selector := rfl

@[simp] theorem State.loadOctets_modes (s : State) :
    (s.loadOctets).modes = s.modes := rfl

@[simp] theorem State.loadOctets_rail (s : State) :
    (s.loadOctets).rail = s.rail := rfl

@[simp] theorem State.loadOctets_listen (s : State) :
    (s.loadOctets).listen = s.listen := rfl

@[simp] theorem State.loadOctets_flags (s : State) :
    (s.loadOctets).flags = s.flags := rfl

@[simp] theorem State.loadOctets_out (s : State) :
    (s.loadOctets).out = s.out := rfl

@[simp] theorem State.loadOctets_pending (s : State) :
    (s.loadOctets).pending = s.pending := rfl

@[simp] theorem State.loadOctets_inputs (s : State) :
    (s.loadOctets).inputs = s.inputs := rfl

@[simp] theorem State.loadOctets_railDue (s : State) :
    (s.loadOctets).railDue = s.railDue := rfl

@[simp] theorem State.loadOctets_choiceSeq (s : State) :
    (s.loadOctets).choiceSeq = s.choiceSeq := rfl

/-! State.pageBoundary -/

@[simp] theorem State.pageBoundary_pins (s : State) :
    (s.pageBoundary).pins = s.pins := by
  unfold State.pageBoundary; dsimp only; split <;> simp

@[simp] theorem State.pageBoundary_straps (s : State) :
    (s.pageBoundary).straps = s.straps := by
  unfold State.pageBoundary; dsimp only; split <;> simp

@[simp] theorem State.pageBoundary_tribs (s : State) :
    (s.pageBoundary).tribs = s.tribs := by
  unfold State.pageBoundary; dsimp only; split <;> simp

@[simp] theorem State.pageBoundary_free (s : State) :
    (s.pageBoundary).free = s.free := by
  unfold State.pageBoundary; dsimp only; split <;> simp

@[simp] theorem State.pageBoundary_counters (s : State) :
    (s.pageBoundary).counters = s.counters := by
  unfold State.pageBoundary; dsimp only; split <;> simp

@[simp] theorem State.pageBoundary_ftu (s : State) :
    (s.pageBoundary).ftu = s.ftu := by
  unfold State.pageBoundary; dsimp only; split <;> simp

@[simp] theorem State.pageBoundary_monA (s : State) :
    (s.pageBoundary).monA = s.monA := by
  unfold State.pageBoundary; dsimp only; split <;> simp

@[simp] theorem State.pageBoundary_monB (s : State) :
    (s.pageBoundary).monB = s.monB := by
  unfold State.pageBoundary; dsimp only; split <;> simp

@[simp] theorem State.pageBoundary_selector (s : State) :
    (s.pageBoundary).selector = s.selector := by
  unfold State.pageBoundary; dsimp only; split <;> simp

@[simp] theorem State.pageBoundary_modes (s : State) :
    (s.pageBoundary).modes = s.modes := by
  unfold State.pageBoundary; dsimp only; split <;> simp

@[simp] theorem State.pageBoundary_rail (s : State) :
    (s.pageBoundary).rail = s.rail := by
  unfold State.pageBoundary; dsimp only; split <;> simp

@[simp] theorem State.pageBoundary_listen (s : State) :
    (s.pageBoundary).listen = s.listen := by
  unfold State.pageBoundary; dsimp only; split <;> simp

@[simp] theorem State.pageBoundary_out (s : State) :
    (s.pageBoundary).out = s.out := by
  unfold State.pageBoundary; dsimp only; split <;> simp

@[simp] theorem State.pageBoundary_pending (s : State) :
    (s.pageBoundary).pending = s.pending := by
  unfold State.pageBoundary; dsimp only; split <;> simp

@[simp] theorem State.pageBoundary_inputs (s : State) :
    (s.pageBoundary).inputs = s.inputs := by
  unfold State.pageBoundary; dsimp only; split <;> simp

@[simp] theorem State.pageBoundary_railDue (s : State) :
    (s.pageBoundary).railDue = s.railDue := by
  unfold State.pageBoundary; dsimp only; split <;> simp

@[simp] theorem State.pageBoundary_choiceSeq (s : State) :
    (s.pageBoundary).choiceSeq = s.choiceSeq := by
  unfold State.pageBoundary; dsimp only; split <;> simp

/-! State.monitorsBoundary -/

@[simp] theorem State.monitorsBoundary_pins (s : State) :
    (s.monitorsBoundary).pins = s.pins := rfl

@[simp] theorem State.monitorsBoundary_straps (s : State) :
    (s.monitorsBoundary).straps = s.straps := rfl

@[simp] theorem State.monitorsBoundary_tribs (s : State) :
    (s.monitorsBoundary).tribs = s.tribs := rfl

@[simp] theorem State.monitorsBoundary_free (s : State) :
    (s.monitorsBoundary).free = s.free := rfl

@[simp] theorem State.monitorsBoundary_counters (s : State) :
    (s.monitorsBoundary).counters = s.counters := rfl

@[simp] theorem State.monitorsBoundary_ftu (s : State) :
    (s.monitorsBoundary).ftu = s.ftu := rfl

@[simp] theorem State.monitorsBoundary_selector (s : State) :
    (s.monitorsBoundary).selector = s.selector := rfl

@[simp] theorem State.monitorsBoundary_modes (s : State) :
    (s.monitorsBoundary).modes = s.modes := rfl

@[simp] theorem State.monitorsBoundary_rail (s : State) :
    (s.monitorsBoundary).rail = s.rail := rfl

@[simp] theorem State.monitorsBoundary_listen (s : State) :
    (s.monitorsBoundary).listen = s.listen := rfl

@[simp] theorem State.monitorsBoundary_flags (s : State) :
    (s.monitorsBoundary).flags = s.flags := rfl

@[simp] theorem State.monitorsBoundary_maint (s : State) :
    (s.monitorsBoundary).maint = s.maint := rfl

@[simp] theorem State.monitorsBoundary_out (s : State) :
    (s.monitorsBoundary).out = s.out := rfl

@[simp] theorem State.monitorsBoundary_pending (s : State) :
    (s.monitorsBoundary).pending = s.pending := rfl

@[simp] theorem State.monitorsBoundary_inputs (s : State) :
    (s.monitorsBoundary).inputs = s.inputs := rfl

@[simp] theorem State.monitorsBoundary_railDue (s : State) :
    (s.monitorsBoundary).railDue = s.railDue := rfl

@[simp] theorem State.monitorsBoundary_choiceSeq (s : State) :
    (s.monitorsBoundary).choiceSeq = s.choiceSeq := rfl

/-! State.ftuBoundary -/

@[simp] theorem State.ftuBoundary_pins (s : State) :
    (s.ftuBoundary).pins = s.pins := rfl

@[simp] theorem State.ftuBoundary_straps (s : State) :
    (s.ftuBoundary).straps = s.straps := rfl

@[simp] theorem State.ftuBoundary_tribs (s : State) :
    (s.ftuBoundary).tribs = s.tribs := rfl

@[simp] theorem State.ftuBoundary_free (s : State) :
    (s.ftuBoundary).free = s.free := rfl

@[simp] theorem State.ftuBoundary_counters (s : State) :
    (s.ftuBoundary).counters = s.counters := rfl

@[simp] theorem State.ftuBoundary_monA (s : State) :
    (s.ftuBoundary).monA = s.monA := rfl

@[simp] theorem State.ftuBoundary_monB (s : State) :
    (s.ftuBoundary).monB = s.monB := rfl

@[simp] theorem State.ftuBoundary_selector (s : State) :
    (s.ftuBoundary).selector = s.selector := rfl

@[simp] theorem State.ftuBoundary_modes (s : State) :
    (s.ftuBoundary).modes = s.modes := rfl

@[simp] theorem State.ftuBoundary_rail (s : State) :
    (s.ftuBoundary).rail = s.rail := rfl

@[simp] theorem State.ftuBoundary_listen (s : State) :
    (s.ftuBoundary).listen = s.listen := rfl

@[simp] theorem State.ftuBoundary_flags (s : State) :
    (s.ftuBoundary).flags = s.flags := rfl

@[simp] theorem State.ftuBoundary_maint (s : State) :
    (s.ftuBoundary).maint = s.maint := rfl

@[simp] theorem State.ftuBoundary_out (s : State) :
    (s.ftuBoundary).out = s.out := rfl

@[simp] theorem State.ftuBoundary_pending (s : State) :
    (s.ftuBoundary).pending = s.pending := rfl

@[simp] theorem State.ftuBoundary_inputs (s : State) :
    (s.ftuBoundary).inputs = s.inputs := rfl

@[simp] theorem State.ftuBoundary_railDue (s : State) :
    (s.ftuBoundary).railDue = s.railDue := rfl

@[simp] theorem State.ftuBoundary_choiceSeq (s : State) :
    (s.ftuBoundary).choiceSeq = s.choiceSeq := rfl

/-! State.closeListenWindow -/

@[simp] theorem State.closeListenWindow_pins (s : State) :
    (s.closeListenWindow).pins = s.pins := rfl

@[simp] theorem State.closeListenWindow_straps (s : State) :
    (s.closeListenWindow).straps = s.straps := rfl

@[simp] theorem State.closeListenWindow_tribs (s : State) :
    (s.closeListenWindow).tribs = s.tribs := rfl

@[simp] theorem State.closeListenWindow_free (s : State) :
    (s.closeListenWindow).free = s.free := rfl

@[simp] theorem State.closeListenWindow_counters (s : State) :
    (s.closeListenWindow).counters = s.counters := rfl

@[simp] theorem State.closeListenWindow_ftu (s : State) :
    (s.closeListenWindow).ftu = s.ftu := rfl

@[simp] theorem State.closeListenWindow_monA (s : State) :
    (s.closeListenWindow).monA = s.monA := rfl

@[simp] theorem State.closeListenWindow_monB (s : State) :
    (s.closeListenWindow).monB = s.monB := rfl

@[simp] theorem State.closeListenWindow_selector (s : State) :
    (s.closeListenWindow).selector = s.selector := rfl

@[simp] theorem State.closeListenWindow_modes (s : State) :
    (s.closeListenWindow).modes = s.modes := rfl

@[simp] theorem State.closeListenWindow_listen (s : State) :
    (s.closeListenWindow).listen = s.listen := rfl

@[simp] theorem State.closeListenWindow_flags (s : State) :
    (s.closeListenWindow).flags = s.flags := rfl

@[simp] theorem State.closeListenWindow_maint (s : State) :
    (s.closeListenWindow).maint = s.maint := rfl

@[simp] theorem State.closeListenWindow_out (s : State) :
    (s.closeListenWindow).out = s.out := rfl

@[simp] theorem State.closeListenWindow_pending (s : State) :
    (s.closeListenWindow).pending = s.pending := rfl

@[simp] theorem State.closeListenWindow_inputs (s : State) :
    (s.closeListenWindow).inputs = s.inputs := rfl

@[simp] theorem State.closeListenWindow_railDue (s : State) :
    (s.closeListenWindow).railDue = s.railDue := rfl

@[simp] theorem State.closeListenWindow_choiceSeq (s : State) :
    (s.closeListenWindow).choiceSeq = s.choiceSeq := rfl

/-! State.openListenWindow -/

@[simp] theorem State.openListenWindow_pins (s : State) (b : Bool) :
    (s.openListenWindow b).pins = s.pins := rfl

@[simp] theorem State.openListenWindow_straps (s : State) (b : Bool) :
    (s.openListenWindow b).straps = s.straps := rfl

@[simp] theorem State.openListenWindow_tribs (s : State) (b : Bool) :
    (s.openListenWindow b).tribs = s.tribs := rfl

@[simp] theorem State.openListenWindow_free (s : State) (b : Bool) :
    (s.openListenWindow b).free = s.free := rfl

@[simp] theorem State.openListenWindow_counters (s : State) (b : Bool) :
    (s.openListenWindow b).counters = s.counters := rfl

@[simp] theorem State.openListenWindow_ftu (s : State) (b : Bool) :
    (s.openListenWindow b).ftu = s.ftu := rfl

@[simp] theorem State.openListenWindow_monA (s : State) (b : Bool) :
    (s.openListenWindow b).monA = s.monA := rfl

@[simp] theorem State.openListenWindow_monB (s : State) (b : Bool) :
    (s.openListenWindow b).monB = s.monB := rfl

@[simp] theorem State.openListenWindow_selector (s : State) (b : Bool) :
    (s.openListenWindow b).selector = s.selector := rfl

@[simp] theorem State.openListenWindow_modes (s : State) (b : Bool) :
    (s.openListenWindow b).modes = s.modes := rfl

@[simp] theorem State.openListenWindow_listen (s : State) (b : Bool) :
    (s.openListenWindow b).listen = s.listen := rfl

@[simp] theorem State.openListenWindow_flags (s : State) (b : Bool) :
    (s.openListenWindow b).flags = s.flags := rfl

@[simp] theorem State.openListenWindow_maint (s : State) (b : Bool) :
    (s.openListenWindow b).maint = s.maint := rfl

@[simp] theorem State.openListenWindow_out (s : State) (b : Bool) :
    (s.openListenWindow b).out = s.out := rfl

@[simp] theorem State.openListenWindow_pending (s : State) (b : Bool) :
    (s.openListenWindow b).pending = s.pending := rfl

@[simp] theorem State.openListenWindow_inputs (s : State) (b : Bool) :
    (s.openListenWindow b).inputs = s.inputs := rfl

@[simp] theorem State.openListenWindow_railDue (s : State) (b : Bool) :
    (s.openListenWindow b).railDue = s.railDue := rfl

@[simp] theorem State.openListenWindow_choiceSeq (s : State) (b : Bool) :
    (s.openListenWindow b).choiceSeq = s.choiceSeq := rfl

/-! State.firstSelection -/

@[simp] theorem State.firstSelection_pins (s : State) (r : RefId) :
    (s.firstSelection r).pins = s.pins := rfl

@[simp] theorem State.firstSelection_straps (s : State) (r : RefId) :
    (s.firstSelection r).straps = s.straps := rfl

@[simp] theorem State.firstSelection_tribs (s : State) (r : RefId) :
    (s.firstSelection r).tribs = s.tribs := rfl

@[simp] theorem State.firstSelection_free (s : State) (r : RefId) :
    (s.firstSelection r).free = s.free := rfl

@[simp] theorem State.firstSelection_counters (s : State) (r : RefId) :
    (s.firstSelection r).counters = s.counters := rfl

@[simp] theorem State.firstSelection_monA (s : State) (r : RefId) :
    (s.firstSelection r).monA = s.monA := rfl

@[simp] theorem State.firstSelection_monB (s : State) (r : RefId) :
    (s.firstSelection r).monB = s.monB := rfl

@[simp] theorem State.firstSelection_listen (s : State) (r : RefId) :
    (s.firstSelection r).listen = s.listen := rfl

@[simp] theorem State.firstSelection_flags (s : State) (r : RefId) :
    (s.firstSelection r).flags = s.flags := rfl

@[simp] theorem State.firstSelection_maint (s : State) (r : RefId) :
    (s.firstSelection r).maint = s.maint := rfl

@[simp] theorem State.firstSelection_out (s : State) (r : RefId) :
    (s.firstSelection r).out = s.out := rfl

@[simp] theorem State.firstSelection_pending (s : State) (r : RefId) :
    (s.firstSelection r).pending = s.pending := rfl

@[simp] theorem State.firstSelection_inputs (s : State) (r : RefId) :
    (s.firstSelection r).inputs = s.inputs := rfl

@[simp] theorem State.firstSelection_railDue (s : State) (r : RefId) :
    (s.firstSelection r).railDue = s.railDue := rfl

@[simp] theorem State.firstSelection_choiceSeq (s : State) (r : RefId) :
    (s.firstSelection r).choiceSeq = s.choiceSeq := rfl

/-! State.switchTo -/

@[simp] theorem State.switchTo_pins (s : State) (r : RefId) :
    (s.switchTo r).pins = s.pins := rfl

@[simp] theorem State.switchTo_straps (s : State) (r : RefId) :
    (s.switchTo r).straps = s.straps := rfl

@[simp] theorem State.switchTo_tribs (s : State) (r : RefId) :
    (s.switchTo r).tribs = s.tribs := rfl

@[simp] theorem State.switchTo_free (s : State) (r : RefId) :
    (s.switchTo r).free = s.free := rfl

@[simp] theorem State.switchTo_ftu (s : State) (r : RefId) :
    (s.switchTo r).ftu = s.ftu := rfl

@[simp] theorem State.switchTo_monA (s : State) (r : RefId) :
    (s.switchTo r).monA = s.monA := rfl

@[simp] theorem State.switchTo_monB (s : State) (r : RefId) :
    (s.switchTo r).monB = s.monB := rfl

@[simp] theorem State.switchTo_rail (s : State) (r : RefId) :
    (s.switchTo r).rail = s.rail := rfl

@[simp] theorem State.switchTo_listen (s : State) (r : RefId) :
    (s.switchTo r).listen = s.listen := rfl

@[simp] theorem State.switchTo_flags (s : State) (r : RefId) :
    (s.switchTo r).flags = s.flags := rfl

@[simp] theorem State.switchTo_maint (s : State) (r : RefId) :
    (s.switchTo r).maint = s.maint := rfl

@[simp] theorem State.switchTo_out (s : State) (r : RefId) :
    (s.switchTo r).out = s.out := rfl

@[simp] theorem State.switchTo_pending (s : State) (r : RefId) :
    (s.switchTo r).pending = s.pending := rfl

@[simp] theorem State.switchTo_inputs (s : State) (r : RefId) :
    (s.switchTo r).inputs = s.inputs := rfl

@[simp] theorem State.switchTo_railDue (s : State) (r : RefId) :
    (s.switchTo r).railDue = s.railDue := rfl

@[simp] theorem State.switchTo_choiceSeq (s : State) (r : RefId) :
    (s.switchTo r).choiceSeq = s.choiceSeq := rfl

/-! State.enterHold -/

@[simp] theorem State.enterHold_pins (s : State) :
    (s.enterHold).pins = s.pins := rfl

@[simp] theorem State.enterHold_straps (s : State) :
    (s.enterHold).straps = s.straps := rfl

@[simp] theorem State.enterHold_tribs (s : State) :
    (s.enterHold).tribs = s.tribs := rfl

@[simp] theorem State.enterHold_free (s : State) :
    (s.enterHold).free = s.free := rfl

@[simp] theorem State.enterHold_monA (s : State) :
    (s.enterHold).monA = s.monA := rfl

@[simp] theorem State.enterHold_monB (s : State) :
    (s.enterHold).monB = s.monB := rfl

@[simp] theorem State.enterHold_selector (s : State) :
    (s.enterHold).selector = s.selector := rfl

@[simp] theorem State.enterHold_listen (s : State) :
    (s.enterHold).listen = s.listen := rfl

@[simp] theorem State.enterHold_maint (s : State) :
    (s.enterHold).maint = s.maint := rfl

@[simp] theorem State.enterHold_out (s : State) :
    (s.enterHold).out = s.out := rfl

@[simp] theorem State.enterHold_pending (s : State) :
    (s.enterHold).pending = s.pending := rfl

@[simp] theorem State.enterHold_inputs (s : State) :
    (s.enterHold).inputs = s.inputs := rfl

@[simp] theorem State.enterHold_railDue (s : State) :
    (s.enterHold).railDue = s.railDue := rfl

@[simp] theorem State.enterHold_choiceSeq (s : State) :
    (s.enterHold).choiceSeq = s.choiceSeq := rfl

/-! State.evaluateSelector -/

@[simp] theorem State.evaluateSelector_pins (s : State) :
    (s.evaluateSelector).pins = s.pins := by
  unfold State.evaluateSelector; (repeat' split) <;> simp

@[simp] theorem State.evaluateSelector_straps (s : State) :
    (s.evaluateSelector).straps = s.straps := by
  unfold State.evaluateSelector; (repeat' split) <;> simp

@[simp] theorem State.evaluateSelector_tribs (s : State) :
    (s.evaluateSelector).tribs = s.tribs := by
  unfold State.evaluateSelector; (repeat' split) <;> simp

@[simp] theorem State.evaluateSelector_free (s : State) :
    (s.evaluateSelector).free = s.free := by
  unfold State.evaluateSelector; (repeat' split) <;> simp

@[simp] theorem State.evaluateSelector_monA (s : State) :
    (s.evaluateSelector).monA = s.monA := by
  unfold State.evaluateSelector; (repeat' split) <;> simp

@[simp] theorem State.evaluateSelector_monB (s : State) :
    (s.evaluateSelector).monB = s.monB := by
  unfold State.evaluateSelector; (repeat' split) <;> simp

@[simp] theorem State.evaluateSelector_listen (s : State) :
    (s.evaluateSelector).listen = s.listen := by
  unfold State.evaluateSelector; (repeat' split) <;> simp

@[simp] theorem State.evaluateSelector_flags (s : State) :
    (s.evaluateSelector).flags = s.flags := by
  unfold State.evaluateSelector; (repeat' split) <;> simp

@[simp] theorem State.evaluateSelector_maint (s : State) :
    (s.evaluateSelector).maint = s.maint := by
  unfold State.evaluateSelector; (repeat' split) <;> simp

@[simp] theorem State.evaluateSelector_out (s : State) :
    (s.evaluateSelector).out = s.out := by
  unfold State.evaluateSelector; (repeat' split) <;> simp

@[simp] theorem State.evaluateSelector_pending (s : State) :
    (s.evaluateSelector).pending = s.pending := by
  unfold State.evaluateSelector; (repeat' split) <;> simp

@[simp] theorem State.evaluateSelector_inputs (s : State) :
    (s.evaluateSelector).inputs = s.inputs := by
  unfold State.evaluateSelector; (repeat' split) <;> simp

@[simp] theorem State.evaluateSelector_railDue (s : State) :
    (s.evaluateSelector).railDue = s.railDue := by
  unfold State.evaluateSelector; (repeat' split) <;> simp

@[simp] theorem State.evaluateSelector_choiceSeq (s : State) :
    (s.evaluateSelector).choiceSeq = s.choiceSeq := by
  unfold State.evaluateSelector; (repeat' split) <;> simp

/-! State.loseSelected -/

@[simp] theorem State.loseSelected_pins (s : State) (r : RefId) :
    (s.loseSelected r).pins = s.pins := by
  unfold State.loseSelected; dsimp only; split <;> simp

@[simp] theorem State.loseSelected_straps (s : State) (r : RefId) :
    (s.loseSelected r).straps = s.straps := by
  unfold State.loseSelected; dsimp only; split <;> simp

@[simp] theorem State.loseSelected_tribs (s : State) (r : RefId) :
    (s.loseSelected r).tribs = s.tribs := by
  unfold State.loseSelected; dsimp only; split <;> simp

@[simp] theorem State.loseSelected_free (s : State) (r : RefId) :
    (s.loseSelected r).free = s.free := by
  unfold State.loseSelected; dsimp only; split <;> simp

@[simp] theorem State.loseSelected_monA (s : State) (r : RefId) :
    (s.loseSelected r).monA = s.monA := by
  unfold State.loseSelected; dsimp only; split <;> simp

@[simp] theorem State.loseSelected_monB (s : State) (r : RefId) :
    (s.loseSelected r).monB = s.monB := by
  unfold State.loseSelected; dsimp only; split <;> simp

@[simp] theorem State.loseSelected_listen (s : State) (r : RefId) :
    (s.loseSelected r).listen = s.listen := by
  unfold State.loseSelected; dsimp only; split <;> simp

@[simp] theorem State.loseSelected_maint (s : State) (r : RefId) :
    (s.loseSelected r).maint = s.maint := by
  unfold State.loseSelected; dsimp only; split <;> simp

@[simp] theorem State.loseSelected_out (s : State) (r : RefId) :
    (s.loseSelected r).out = s.out := by
  unfold State.loseSelected; dsimp only; split <;> simp

@[simp] theorem State.loseSelected_pending (s : State) (r : RefId) :
    (s.loseSelected r).pending = s.pending := by
  unfold State.loseSelected; dsimp only; split <;> simp

@[simp] theorem State.loseSelected_inputs (s : State) (r : RefId) :
    (s.loseSelected r).inputs = s.inputs := by
  unfold State.loseSelected; dsimp only; split <;> simp

@[simp] theorem State.loseSelected_railDue (s : State) (r : RefId) :
    (s.loseSelected r).railDue = s.railDue := by
  unfold State.loseSelected; dsimp only; split <;> simp

@[simp] theorem State.loseSelected_choiceSeq (s : State) (r : RefId) :
    (s.loseSelected r).choiceSeq = s.choiceSeq := by
  unfold State.loseSelected; dsimp only; split <;> simp

/-! State.leaveShelf -/

@[simp] theorem State.leaveShelf_pins (s : State) :
    (s.leaveShelf).pins = s.pins := rfl

@[simp] theorem State.leaveShelf_straps (s : State) :
    (s.leaveShelf).straps = s.straps := rfl

@[simp] theorem State.leaveShelf_tribs (s : State) :
    (s.leaveShelf).tribs = s.tribs := rfl

@[simp] theorem State.leaveShelf_free (s : State) :
    (s.leaveShelf).free = s.free := rfl

@[simp] theorem State.leaveShelf_counters (s : State) :
    (s.leaveShelf).counters = s.counters := rfl

@[simp] theorem State.leaveShelf_monA (s : State) :
    (s.leaveShelf).monA = s.monA := rfl

@[simp] theorem State.leaveShelf_monB (s : State) :
    (s.leaveShelf).monB = s.monB := rfl

@[simp] theorem State.leaveShelf_listen (s : State) :
    (s.leaveShelf).listen = s.listen := rfl

@[simp] theorem State.leaveShelf_flags (s : State) :
    (s.leaveShelf).flags = s.flags := rfl

@[simp] theorem State.leaveShelf_maint (s : State) :
    (s.leaveShelf).maint = s.maint := rfl

@[simp] theorem State.leaveShelf_out (s : State) :
    (s.leaveShelf).out = s.out := rfl

@[simp] theorem State.leaveShelf_pending (s : State) :
    (s.leaveShelf).pending = s.pending := rfl

@[simp] theorem State.leaveShelf_inputs (s : State) :
    (s.leaveShelf).inputs = s.inputs := rfl

@[simp] theorem State.leaveShelf_railDue (s : State) :
    (s.leaveShelf).railDue = s.railDue := rfl

@[simp] theorem State.leaveShelf_choiceSeq (s : State) :
    (s.leaveShelf).choiceSeq = s.choiceSeq := rfl

/-! State.takeWithdrawal -/

@[simp] theorem State.takeWithdrawal_pins (s : State) :
    (s.takeWithdrawal).pins = s.pins := by
  unfold State.takeWithdrawal; dsimp only; split <;> simp

@[simp] theorem State.takeWithdrawal_straps (s : State) :
    (s.takeWithdrawal).straps = s.straps := by
  unfold State.takeWithdrawal; dsimp only; split <;> simp

@[simp] theorem State.takeWithdrawal_tribs (s : State) :
    (s.takeWithdrawal).tribs = s.tribs := by
  unfold State.takeWithdrawal; dsimp only; split <;> simp

@[simp] theorem State.takeWithdrawal_free (s : State) :
    (s.takeWithdrawal).free = s.free := by
  unfold State.takeWithdrawal; dsimp only; split <;> simp

@[simp] theorem State.takeWithdrawal_counters (s : State) :
    (s.takeWithdrawal).counters = s.counters := by
  unfold State.takeWithdrawal; dsimp only; split <;> simp

@[simp] theorem State.takeWithdrawal_monA (s : State) :
    (s.takeWithdrawal).monA = s.monA := by
  unfold State.takeWithdrawal; dsimp only; split <;> simp

@[simp] theorem State.takeWithdrawal_monB (s : State) :
    (s.takeWithdrawal).monB = s.monB := by
  unfold State.takeWithdrawal; dsimp only; split <;> simp

@[simp] theorem State.takeWithdrawal_flags (s : State) :
    (s.takeWithdrawal).flags = s.flags := by
  unfold State.takeWithdrawal; dsimp only; split <;> simp

@[simp] theorem State.takeWithdrawal_maint (s : State) :
    (s.takeWithdrawal).maint = s.maint := by
  unfold State.takeWithdrawal; dsimp only; split <;> simp

@[simp] theorem State.takeWithdrawal_out (s : State) :
    (s.takeWithdrawal).out = s.out := by
  unfold State.takeWithdrawal; dsimp only; split <;> simp

@[simp] theorem State.takeWithdrawal_pending (s : State) :
    (s.takeWithdrawal).pending = s.pending := by
  unfold State.takeWithdrawal; dsimp only; split <;> simp

@[simp] theorem State.takeWithdrawal_inputs (s : State) :
    (s.takeWithdrawal).inputs = s.inputs := by
  unfold State.takeWithdrawal; dsimp only; split <;> simp

@[simp] theorem State.takeWithdrawal_railDue (s : State) :
    (s.takeWithdrawal).railDue = s.railDue := by
  unfold State.takeWithdrawal; dsimp only; split <;> simp

@[simp] theorem State.takeWithdrawal_choiceSeq (s : State) :
    (s.takeWithdrawal).choiceSeq = s.choiceSeq := by
  unfold State.takeWithdrawal; dsimp only; split <;> simp

/-! State.takeJoin -/

@[simp] theorem State.takeJoin_pins (s : State) :
    (s.takeJoin).pins = s.pins := by
  unfold State.takeJoin; dsimp only; split <;> simp

@[simp] theorem State.takeJoin_straps (s : State) :
    (s.takeJoin).straps = s.straps := by
  unfold State.takeJoin; dsimp only; split <;> simp

@[simp] theorem State.takeJoin_tribs (s : State) :
    (s.takeJoin).tribs = s.tribs := by
  unfold State.takeJoin; dsimp only; split <;> simp

@[simp] theorem State.takeJoin_free (s : State) :
    (s.takeJoin).free = s.free := by
  unfold State.takeJoin; dsimp only; split <;> simp

@[simp] theorem State.takeJoin_counters (s : State) :
    (s.takeJoin).counters = s.counters := by
  unfold State.takeJoin; dsimp only; split <;> simp

@[simp] theorem State.takeJoin_monA (s : State) :
    (s.takeJoin).monA = s.monA := by
  unfold State.takeJoin; dsimp only; split <;> simp

@[simp] theorem State.takeJoin_monB (s : State) :
    (s.takeJoin).monB = s.monB := by
  unfold State.takeJoin; dsimp only; split <;> simp

@[simp] theorem State.takeJoin_flags (s : State) :
    (s.takeJoin).flags = s.flags := by
  unfold State.takeJoin; dsimp only; split <;> simp

@[simp] theorem State.takeJoin_maint (s : State) :
    (s.takeJoin).maint = s.maint := by
  unfold State.takeJoin; dsimp only; split <;> simp

@[simp] theorem State.takeJoin_out (s : State) :
    (s.takeJoin).out = s.out := by
  unfold State.takeJoin; dsimp only; split <;> simp

@[simp] theorem State.takeJoin_pending (s : State) :
    (s.takeJoin).pending = s.pending := by
  unfold State.takeJoin; dsimp only; split <;> simp

@[simp] theorem State.takeJoin_inputs (s : State) :
    (s.takeJoin).inputs = s.inputs := by
  unfold State.takeJoin; dsimp only; split <;> simp

@[simp] theorem State.takeJoin_railDue (s : State) :
    (s.takeJoin).railDue = s.railDue := by
  unfold State.takeJoin; dsimp only; split <;> simp

@[simp] theorem State.takeJoin_choiceSeq (s : State) :
    (s.takeJoin).choiceSeq = s.choiceSeq := by
  unfold State.takeJoin; dsimp only; split <;> simp

/-! State.startAfresh -/

@[simp] theorem State.startAfresh_pins (s : State) :
    (s.startAfresh).pins = s.pins := rfl

@[simp] theorem State.startAfresh_straps (s : State) :
    (s.startAfresh).straps = s.straps := rfl

@[simp] theorem State.startAfresh_tribs (s : State) :
    (s.startAfresh).tribs = s.tribs := rfl

@[simp] theorem State.startAfresh_free (s : State) :
    (s.startAfresh).free = s.free := rfl

@[simp] theorem State.startAfresh_counters (s : State) :
    (s.startAfresh).counters = s.counters := rfl

@[simp] theorem State.startAfresh_ftu (s : State) :
    (s.startAfresh).ftu = s.ftu := rfl

@[simp] theorem State.startAfresh_monA (s : State) :
    (s.startAfresh).monA = s.monA := rfl

@[simp] theorem State.startAfresh_monB (s : State) :
    (s.startAfresh).monB = s.monB := rfl

@[simp] theorem State.startAfresh_selector (s : State) :
    (s.startAfresh).selector = s.selector := rfl

@[simp] theorem State.startAfresh_modes (s : State) :
    (s.startAfresh).modes = s.modes := rfl

@[simp] theorem State.startAfresh_flags (s : State) :
    (s.startAfresh).flags = s.flags := rfl

@[simp] theorem State.startAfresh_maint (s : State) :
    (s.startAfresh).maint = s.maint := rfl

@[simp] theorem State.startAfresh_out (s : State) :
    (s.startAfresh).out = s.out := rfl

@[simp] theorem State.startAfresh_pending (s : State) :
    (s.startAfresh).pending = s.pending := rfl

@[simp] theorem State.startAfresh_inputs (s : State) :
    (s.startAfresh).inputs = s.inputs := rfl

@[simp] theorem State.startAfresh_railDue (s : State) :
    (s.startAfresh).railDue = s.railDue := rfl

@[simp] theorem State.startAfresh_choiceSeq (s : State) :
    (s.startAfresh).choiceSeq = s.choiceSeq := rfl

/-! State.passage -/

@[simp] theorem State.passage_pins (s : State) (e b : Bool) :
    (s.passage e b).pins = s.pins := by
  unfold State.passage; (repeat' split) <;> simp

@[simp] theorem State.passage_straps (s : State) (e b : Bool) :
    (s.passage e b).straps = s.straps := by
  unfold State.passage; (repeat' split) <;> simp

@[simp] theorem State.passage_tribs (s : State) (e b : Bool) :
    (s.passage e b).tribs = s.tribs := by
  unfold State.passage; (repeat' split) <;> simp

@[simp] theorem State.passage_free (s : State) (e b : Bool) :
    (s.passage e b).free = s.free := by
  unfold State.passage; (repeat' split) <;> simp

@[simp] theorem State.passage_counters (s : State) (e b : Bool) :
    (s.passage e b).counters = s.counters := by
  unfold State.passage; (repeat' split) <;> simp

@[simp] theorem State.passage_monA (s : State) (e b : Bool) :
    (s.passage e b).monA = s.monA := by
  unfold State.passage; (repeat' split) <;> simp

@[simp] theorem State.passage_monB (s : State) (e b : Bool) :
    (s.passage e b).monB = s.monB := by
  unfold State.passage; (repeat' split) <;> simp

@[simp] theorem State.passage_flags (s : State) (e b : Bool) :
    (s.passage e b).flags = s.flags := by
  unfold State.passage; (repeat' split) <;> simp

@[simp] theorem State.passage_maint (s : State) (e b : Bool) :
    (s.passage e b).maint = s.maint := by
  unfold State.passage; (repeat' split) <;> simp

@[simp] theorem State.passage_out (s : State) (e b : Bool) :
    (s.passage e b).out = s.out := by
  unfold State.passage; (repeat' split) <;> simp

@[simp] theorem State.passage_pending (s : State) (e b : Bool) :
    (s.passage e b).pending = s.pending := by
  unfold State.passage; (repeat' split) <;> simp

@[simp] theorem State.passage_inputs (s : State) (e b : Bool) :
    (s.passage e b).inputs = s.inputs := by
  unfold State.passage; (repeat' split) <;> simp

@[simp] theorem State.passage_railDue (s : State) (e b : Bool) :
    (s.passage e b).railDue = s.railDue := by
  unfold State.passage; (repeat' split) <;> simp

@[simp] theorem State.passage_choiceSeq (s : State) (e b : Bool) :
    (s.passage e b).choiceSeq = s.choiceSeq := by
  unfold State.passage; (repeat' split) <;> simp

/-! State.captureOwn -/

@[simp] theorem State.captureOwn_pins (s : State) (l : RailLine) :
    (s.captureOwn l).pins = s.pins := rfl

@[simp] theorem State.captureOwn_straps (s : State) (l : RailLine) :
    (s.captureOwn l).straps = s.straps := rfl

@[simp] theorem State.captureOwn_tribs (s : State) (l : RailLine) :
    (s.captureOwn l).tribs = s.tribs := rfl

@[simp] theorem State.captureOwn_free (s : State) (l : RailLine) :
    (s.captureOwn l).free = s.free := rfl

@[simp] theorem State.captureOwn_counters (s : State) (l : RailLine) :
    (s.captureOwn l).counters = s.counters := rfl

@[simp] theorem State.captureOwn_ftu (s : State) (l : RailLine) :
    (s.captureOwn l).ftu = s.ftu := rfl

@[simp] theorem State.captureOwn_monA (s : State) (l : RailLine) :
    (s.captureOwn l).monA = s.monA := rfl

@[simp] theorem State.captureOwn_monB (s : State) (l : RailLine) :
    (s.captureOwn l).monB = s.monB := rfl

@[simp] theorem State.captureOwn_selector (s : State) (l : RailLine) :
    (s.captureOwn l).selector = s.selector := rfl

@[simp] theorem State.captureOwn_modes (s : State) (l : RailLine) :
    (s.captureOwn l).modes = s.modes := rfl

@[simp] theorem State.captureOwn_listen (s : State) (l : RailLine) :
    (s.captureOwn l).listen = s.listen := rfl

@[simp] theorem State.captureOwn_flags (s : State) (l : RailLine) :
    (s.captureOwn l).flags = s.flags := rfl

@[simp] theorem State.captureOwn_maint (s : State) (l : RailLine) :
    (s.captureOwn l).maint = s.maint := rfl

@[simp] theorem State.captureOwn_out (s : State) (l : RailLine) :
    (s.captureOwn l).out = s.out := rfl

@[simp] theorem State.captureOwn_pending (s : State) (l : RailLine) :
    (s.captureOwn l).pending = s.pending := rfl

@[simp] theorem State.captureOwn_inputs (s : State) (l : RailLine) :
    (s.captureOwn l).inputs = s.inputs := rfl

@[simp] theorem State.captureOwn_railDue (s : State) (l : RailLine) :
    (s.captureOwn l).railDue = s.railDue := rfl

@[simp] theorem State.captureOwn_choiceSeq (s : State) (l : RailLine) :
    (s.captureOwn l).choiceSeq = s.choiceSeq := rfl

/-! State.driveRail -/

@[simp] theorem State.driveRail_pins (s : State) :
    (s.driveRail).pins = s.pins := by
  unfold State.driveRail; dsimp only; split <;> simp

@[simp] theorem State.driveRail_straps (s : State) :
    (s.driveRail).straps = s.straps := by
  unfold State.driveRail; dsimp only; split <;> simp

@[simp] theorem State.driveRail_tribs (s : State) :
    (s.driveRail).tribs = s.tribs := by
  unfold State.driveRail; dsimp only; split <;> simp

@[simp] theorem State.driveRail_free (s : State) :
    (s.driveRail).free = s.free := by
  unfold State.driveRail; dsimp only; split <;> simp

@[simp] theorem State.driveRail_counters (s : State) :
    (s.driveRail).counters = s.counters := by
  unfold State.driveRail; dsimp only; split <;> simp

@[simp] theorem State.driveRail_ftu (s : State) :
    (s.driveRail).ftu = s.ftu := by
  unfold State.driveRail; dsimp only; split <;> simp

@[simp] theorem State.driveRail_monA (s : State) :
    (s.driveRail).monA = s.monA := by
  unfold State.driveRail; dsimp only; split <;> simp

@[simp] theorem State.driveRail_monB (s : State) :
    (s.driveRail).monB = s.monB := by
  unfold State.driveRail; dsimp only; split <;> simp

@[simp] theorem State.driveRail_selector (s : State) :
    (s.driveRail).selector = s.selector := by
  unfold State.driveRail; dsimp only; split <;> simp

@[simp] theorem State.driveRail_modes (s : State) :
    (s.driveRail).modes = s.modes := by
  unfold State.driveRail; dsimp only; split <;> simp

@[simp] theorem State.driveRail_listen (s : State) :
    (s.driveRail).listen = s.listen := by
  unfold State.driveRail; dsimp only; split <;> simp

@[simp] theorem State.driveRail_flags (s : State) :
    (s.driveRail).flags = s.flags := by
  unfold State.driveRail; dsimp only; split <;> simp

@[simp] theorem State.driveRail_maint (s : State) :
    (s.driveRail).maint = s.maint := by
  unfold State.driveRail; dsimp only; split <;> simp

@[simp] theorem State.driveRail_out (s : State) :
    (s.driveRail).out = s.out := by
  unfold State.driveRail; dsimp only; split <;> simp

@[simp] theorem State.driveRail_pending (s : State) :
    (s.driveRail).pending = s.pending := by
  unfold State.driveRail; dsimp only; split <;> simp

@[simp] theorem State.driveRail_inputs (s : State) :
    (s.driveRail).inputs = s.inputs := by
  unfold State.driveRail; dsimp only; split <;> simp

@[simp] theorem State.driveRail_railDue (s : State) :
    (s.driveRail).railDue = s.railDue := by
  unfold State.driveRail; dsimp only; split <;> simp

@[simp] theorem State.driveRail_choiceSeq (s : State) :
    (s.driveRail).choiceSeq = s.choiceSeq := by
  unfold State.driveRail; dsimp only; split <;> simp

/-! State.railBoundary -/

@[simp] theorem State.railBoundary_pins (s : State) (b : Bool) :
    (s.railBoundary b).pins = s.pins := by
  unfold State.railBoundary; split <;> simp

@[simp] theorem State.railBoundary_straps (s : State) (b : Bool) :
    (s.railBoundary b).straps = s.straps := by
  unfold State.railBoundary; split <;> simp

@[simp] theorem State.railBoundary_tribs (s : State) (b : Bool) :
    (s.railBoundary b).tribs = s.tribs := by
  unfold State.railBoundary; split <;> simp

@[simp] theorem State.railBoundary_free (s : State) (b : Bool) :
    (s.railBoundary b).free = s.free := by
  unfold State.railBoundary; split <;> simp

@[simp] theorem State.railBoundary_counters (s : State) (b : Bool) :
    (s.railBoundary b).counters = s.counters := by
  unfold State.railBoundary; split <;> simp

@[simp] theorem State.railBoundary_ftu (s : State) (b : Bool) :
    (s.railBoundary b).ftu = s.ftu := by
  unfold State.railBoundary; split <;> simp

@[simp] theorem State.railBoundary_monA (s : State) (b : Bool) :
    (s.railBoundary b).monA = s.monA := by
  unfold State.railBoundary; split <;> simp

@[simp] theorem State.railBoundary_monB (s : State) (b : Bool) :
    (s.railBoundary b).monB = s.monB := by
  unfold State.railBoundary; split <;> simp

@[simp] theorem State.railBoundary_selector (s : State) (b : Bool) :
    (s.railBoundary b).selector = s.selector := by
  unfold State.railBoundary; split <;> simp

@[simp] theorem State.railBoundary_modes (s : State) (b : Bool) :
    (s.railBoundary b).modes = s.modes := by
  unfold State.railBoundary; split <;> simp

@[simp] theorem State.railBoundary_listen (s : State) (b : Bool) :
    (s.railBoundary b).listen = s.listen := by
  unfold State.railBoundary; split <;> simp

@[simp] theorem State.railBoundary_flags (s : State) (b : Bool) :
    (s.railBoundary b).flags = s.flags := by
  unfold State.railBoundary; split <;> simp

@[simp] theorem State.railBoundary_maint (s : State) (b : Bool) :
    (s.railBoundary b).maint = s.maint := by
  unfold State.railBoundary; split <;> simp

@[simp] theorem State.railBoundary_out (s : State) (b : Bool) :
    (s.railBoundary b).out = s.out := by
  unfold State.railBoundary; split <;> simp

@[simp] theorem State.railBoundary_pending (s : State) (b : Bool) :
    (s.railBoundary b).pending = s.pending := by
  unfold State.railBoundary; split <;> simp

@[simp] theorem State.railBoundary_inputs (s : State) (b : Bool) :
    (s.railBoundary b).inputs = s.inputs := by
  unfold State.railBoundary; split <;> simp

@[simp] theorem State.railBoundary_railDue (s : State) (b : Bool) :
    (s.railBoundary b).railDue = s.railDue := by
  unfold State.railBoundary; split <;> simp

@[simp] theorem State.railBoundary_choiceSeq (s : State) (b : Bool) :
    (s.railBoundary b).choiceSeq = s.choiceSeq := by
  unfold State.railBoundary; split <;> simp

/-! State.stationBoundary -/

@[simp] theorem State.stationBoundary_pins (s : State) (e b w : Bool) :
    (s.stationBoundary e b w).pins = s.pins := by
  unfold State.stationBoundary; cases w <;> simp

@[simp] theorem State.stationBoundary_straps (s : State) (e b w : Bool) :
    (s.stationBoundary e b w).straps = s.straps := by
  unfold State.stationBoundary; cases w <;> simp

@[simp] theorem State.stationBoundary_tribs (s : State) (e b w : Bool) :
    (s.stationBoundary e b w).tribs = s.tribs := by
  unfold State.stationBoundary; cases w <;> simp

@[simp] theorem State.stationBoundary_free (s : State) (e b w : Bool) :
    (s.stationBoundary e b w).free = s.free := by
  unfold State.stationBoundary; cases w <;> simp

@[simp] theorem State.stationBoundary_counters (s : State) (e b w : Bool) :
    (s.stationBoundary e b w).counters = s.counters := by
  unfold State.stationBoundary; cases w <;> simp

@[simp] theorem State.stationBoundary_monA (s : State) (e b w : Bool) :
    (s.stationBoundary e b w).monA = s.monA := by
  unfold State.stationBoundary; cases w <;> simp

@[simp] theorem State.stationBoundary_monB (s : State) (e b w : Bool) :
    (s.stationBoundary e b w).monB = s.monB := by
  unfold State.stationBoundary; cases w <;> simp

@[simp] theorem State.stationBoundary_flags (s : State) (e b w : Bool) :
    (s.stationBoundary e b w).flags = s.flags := by
  unfold State.stationBoundary; cases w <;> simp

@[simp] theorem State.stationBoundary_maint (s : State) (e b w : Bool) :
    (s.stationBoundary e b w).maint = s.maint := by
  unfold State.stationBoundary; cases w <;> simp

@[simp] theorem State.stationBoundary_out (s : State) (e b w : Bool) :
    (s.stationBoundary e b w).out = s.out := by
  unfold State.stationBoundary; cases w <;> simp

@[simp] theorem State.stationBoundary_pending (s : State) (e b w : Bool) :
    (s.stationBoundary e b w).pending = s.pending := by
  unfold State.stationBoundary; cases w <;> simp

@[simp] theorem State.stationBoundary_inputs (s : State) (e b w : Bool) :
    (s.stationBoundary e b w).inputs = s.inputs := by
  unfold State.stationBoundary; cases w <;> simp

@[simp] theorem State.stationBoundary_railDue (s : State) (e b w : Bool) :
    (s.stationBoundary e b w).railDue = s.railDue := by
  unfold State.stationBoundary; cases w <;> simp

@[simp] theorem State.stationBoundary_choiceSeq (s : State) (e b w : Bool) :
    (s.stationBoundary e b w).choiceSeq = s.choiceSeq := by
  unfold State.stationBoundary; cases w <;> simp

/-! State.followBetter -/

@[simp] theorem State.followBetter_pins (s : State) :
    (s.followBetter).pins = s.pins := rfl

@[simp] theorem State.followBetter_straps (s : State) :
    (s.followBetter).straps = s.straps := rfl

@[simp] theorem State.followBetter_tribs (s : State) :
    (s.followBetter).tribs = s.tribs := rfl

@[simp] theorem State.followBetter_free (s : State) :
    (s.followBetter).free = s.free := rfl

@[simp] theorem State.followBetter_counters (s : State) :
    (s.followBetter).counters = s.counters := rfl

@[simp] theorem State.followBetter_monA (s : State) :
    (s.followBetter).monA = s.monA := rfl

@[simp] theorem State.followBetter_monB (s : State) :
    (s.followBetter).monB = s.monB := rfl

@[simp] theorem State.followBetter_selector (s : State) :
    (s.followBetter).selector = s.selector := rfl

@[simp] theorem State.followBetter_listen (s : State) :
    (s.followBetter).listen = s.listen := rfl

@[simp] theorem State.followBetter_flags (s : State) :
    (s.followBetter).flags = s.flags := rfl

@[simp] theorem State.followBetter_maint (s : State) :
    (s.followBetter).maint = s.maint := rfl

@[simp] theorem State.followBetter_out (s : State) :
    (s.followBetter).out = s.out := rfl

@[simp] theorem State.followBetter_pending (s : State) :
    (s.followBetter).pending = s.pending := rfl

@[simp] theorem State.followBetter_inputs (s : State) :
    (s.followBetter).inputs = s.inputs := rfl

@[simp] theorem State.followBetter_railDue (s : State) :
    (s.followBetter).railDue = s.railDue := rfl

@[simp] theorem State.followBetter_choiceSeq (s : State) :
    (s.followBetter).choiceSeq = s.choiceSeq := rfl

/-! State.formResults -/

@[simp] theorem State.formResults_pins (s : State) (c : Captures) (n m : Int) :
    (s.formResults c n m).pins = s.pins := rfl

@[simp] theorem State.formResults_straps (s : State) (c : Captures) (n m : Int) :
    (s.formResults c n m).straps = s.straps := rfl

@[simp] theorem State.formResults_tribs (s : State) (c : Captures) (n m : Int) :
    (s.formResults c n m).tribs = s.tribs := rfl

@[simp] theorem State.formResults_free (s : State) (c : Captures) (n m : Int) :
    (s.formResults c n m).free = s.free := rfl

@[simp] theorem State.formResults_counters (s : State) (c : Captures) (n m : Int) :
    (s.formResults c n m).counters = s.counters := rfl

@[simp] theorem State.formResults_ftu (s : State) (c : Captures) (n m : Int) :
    (s.formResults c n m).ftu = s.ftu := rfl

@[simp] theorem State.formResults_monA (s : State) (c : Captures) (n m : Int) :
    (s.formResults c n m).monA = s.monA := rfl

@[simp] theorem State.formResults_monB (s : State) (c : Captures) (n m : Int) :
    (s.formResults c n m).monB = s.monB := rfl

@[simp] theorem State.formResults_selector (s : State) (c : Captures) (n m : Int) :
    (s.formResults c n m).selector = s.selector := rfl

@[simp] theorem State.formResults_modes (s : State) (c : Captures) (n m : Int) :
    (s.formResults c n m).modes = s.modes := rfl

@[simp] theorem State.formResults_listen (s : State) (c : Captures) (n m : Int) :
    (s.formResults c n m).listen = s.listen := rfl

@[simp] theorem State.formResults_flags (s : State) (c : Captures) (n m : Int) :
    (s.formResults c n m).flags = s.flags := rfl

@[simp] theorem State.formResults_maint (s : State) (c : Captures) (n m : Int) :
    (s.formResults c n m).maint = s.maint := rfl

@[simp] theorem State.formResults_out (s : State) (c : Captures) (n m : Int) :
    (s.formResults c n m).out = s.out := rfl

@[simp] theorem State.formResults_pending (s : State) (c : Captures) (n m : Int) :
    (s.formResults c n m).pending = s.pending := rfl

@[simp] theorem State.formResults_inputs (s : State) (c : Captures) (n m : Int) :
    (s.formResults c n m).inputs = s.inputs := rfl

@[simp] theorem State.formResults_railDue (s : State) (c : Captures) (n m : Int) :
    (s.formResults c n m).railDue = s.railDue := rfl

@[simp] theorem State.formResults_choiceSeq (s : State) (c : Captures) (n m : Int) :
    (s.formResults c n m).choiceSeq = s.choiceSeq := rfl

/-! State.formAtClose -/

@[simp] theorem State.formAtClose_pins (s : State) :
    (s.formAtClose).pins = s.pins := by
  unfold State.formAtClose; (repeat' split) <;> simp

@[simp] theorem State.formAtClose_straps (s : State) :
    (s.formAtClose).straps = s.straps := by
  unfold State.formAtClose; (repeat' split) <;> simp

@[simp] theorem State.formAtClose_tribs (s : State) :
    (s.formAtClose).tribs = s.tribs := by
  unfold State.formAtClose; (repeat' split) <;> simp

@[simp] theorem State.formAtClose_free (s : State) :
    (s.formAtClose).free = s.free := by
  unfold State.formAtClose; (repeat' split) <;> simp

@[simp] theorem State.formAtClose_counters (s : State) :
    (s.formAtClose).counters = s.counters := by
  unfold State.formAtClose; (repeat' split) <;> simp

@[simp] theorem State.formAtClose_ftu (s : State) :
    (s.formAtClose).ftu = s.ftu := by
  unfold State.formAtClose; (repeat' split) <;> simp

@[simp] theorem State.formAtClose_monA (s : State) :
    (s.formAtClose).monA = s.monA := by
  unfold State.formAtClose; (repeat' split) <;> simp

@[simp] theorem State.formAtClose_monB (s : State) :
    (s.formAtClose).monB = s.monB := by
  unfold State.formAtClose; (repeat' split) <;> simp

@[simp] theorem State.formAtClose_selector (s : State) :
    (s.formAtClose).selector = s.selector := by
  unfold State.formAtClose; (repeat' split) <;> simp

@[simp] theorem State.formAtClose_modes (s : State) :
    (s.formAtClose).modes = s.modes := by
  unfold State.formAtClose; (repeat' split) <;> simp

@[simp] theorem State.formAtClose_listen (s : State) :
    (s.formAtClose).listen = s.listen := by
  unfold State.formAtClose; (repeat' split) <;> simp

@[simp] theorem State.formAtClose_flags (s : State) :
    (s.formAtClose).flags = s.flags := by
  unfold State.formAtClose; (repeat' split) <;> simp

@[simp] theorem State.formAtClose_maint (s : State) :
    (s.formAtClose).maint = s.maint := by
  unfold State.formAtClose; (repeat' split) <;> simp

@[simp] theorem State.formAtClose_out (s : State) :
    (s.formAtClose).out = s.out := by
  unfold State.formAtClose; (repeat' split) <;> simp

@[simp] theorem State.formAtClose_pending (s : State) :
    (s.formAtClose).pending = s.pending := by
  unfold State.formAtClose; (repeat' split) <;> simp

@[simp] theorem State.formAtClose_inputs (s : State) :
    (s.formAtClose).inputs = s.inputs := by
  unfold State.formAtClose; (repeat' split) <;> simp

@[simp] theorem State.formAtClose_railDue (s : State) :
    (s.formAtClose).railDue = s.railDue := by
  unfold State.formAtClose; (repeat' split) <;> simp

@[simp] theorem State.formAtClose_choiceSeq (s : State) :
    (s.formAtClose).choiceSeq = s.choiceSeq := by
  unfold State.formAtClose; (repeat' split) <;> simp

/-! State.loseLead -/

@[simp] theorem State.loseLead_pins (s : State) :
    (s.loseLead).pins = s.pins := rfl

@[simp] theorem State.loseLead_straps (s : State) :
    (s.loseLead).straps = s.straps := rfl

@[simp] theorem State.loseLead_tribs (s : State) :
    (s.loseLead).tribs = s.tribs := rfl

@[simp] theorem State.loseLead_free (s : State) :
    (s.loseLead).free = s.free := rfl

@[simp] theorem State.loseLead_monA (s : State) :
    (s.loseLead).monA = s.monA := rfl

@[simp] theorem State.loseLead_monB (s : State) :
    (s.loseLead).monB = s.monB := rfl

@[simp] theorem State.loseLead_selector (s : State) :
    (s.loseLead).selector = s.selector := rfl

@[simp] theorem State.loseLead_modes (s : State) :
    (s.loseLead).modes = s.modes := rfl

@[simp] theorem State.loseLead_listen (s : State) :
    (s.loseLead).listen = s.listen := rfl

@[simp] theorem State.loseLead_maint (s : State) :
    (s.loseLead).maint = s.maint := rfl

@[simp] theorem State.loseLead_out (s : State) :
    (s.loseLead).out = s.out := rfl

@[simp] theorem State.loseLead_pending (s : State) :
    (s.loseLead).pending = s.pending := rfl

@[simp] theorem State.loseLead_inputs (s : State) :
    (s.loseLead).inputs = s.inputs := rfl

@[simp] theorem State.loseLead_railDue (s : State) :
    (s.loseLead).railDue = s.railDue := rfl

@[simp] theorem State.loseLead_choiceSeq (s : State) :
    (s.loseLead).choiceSeq = s.choiceSeq := rfl

/-! State.countLeadAbsent -/

@[simp] theorem State.countLeadAbsent_pins (s : State) :
    (s.countLeadAbsent).pins = s.pins := by
  unfold State.countLeadAbsent; (repeat' split) <;> simp

@[simp] theorem State.countLeadAbsent_straps (s : State) :
    (s.countLeadAbsent).straps = s.straps := by
  unfold State.countLeadAbsent; (repeat' split) <;> simp

@[simp] theorem State.countLeadAbsent_tribs (s : State) :
    (s.countLeadAbsent).tribs = s.tribs := by
  unfold State.countLeadAbsent; (repeat' split) <;> simp

@[simp] theorem State.countLeadAbsent_free (s : State) :
    (s.countLeadAbsent).free = s.free := by
  unfold State.countLeadAbsent; (repeat' split) <;> simp

@[simp] theorem State.countLeadAbsent_monA (s : State) :
    (s.countLeadAbsent).monA = s.monA := by
  unfold State.countLeadAbsent; (repeat' split) <;> simp

@[simp] theorem State.countLeadAbsent_monB (s : State) :
    (s.countLeadAbsent).monB = s.monB := by
  unfold State.countLeadAbsent; (repeat' split) <;> simp

@[simp] theorem State.countLeadAbsent_selector (s : State) :
    (s.countLeadAbsent).selector = s.selector := by
  unfold State.countLeadAbsent; (repeat' split) <;> simp

@[simp] theorem State.countLeadAbsent_modes (s : State) :
    (s.countLeadAbsent).modes = s.modes := by
  unfold State.countLeadAbsent; (repeat' split) <;> simp

@[simp] theorem State.countLeadAbsent_listen (s : State) :
    (s.countLeadAbsent).listen = s.listen := by
  unfold State.countLeadAbsent; (repeat' split) <;> simp

@[simp] theorem State.countLeadAbsent_maint (s : State) :
    (s.countLeadAbsent).maint = s.maint := by
  unfold State.countLeadAbsent; (repeat' split) <;> simp

@[simp] theorem State.countLeadAbsent_out (s : State) :
    (s.countLeadAbsent).out = s.out := by
  unfold State.countLeadAbsent; (repeat' split) <;> simp

@[simp] theorem State.countLeadAbsent_pending (s : State) :
    (s.countLeadAbsent).pending = s.pending := by
  unfold State.countLeadAbsent; (repeat' split) <;> simp

@[simp] theorem State.countLeadAbsent_inputs (s : State) :
    (s.countLeadAbsent).inputs = s.inputs := by
  unfold State.countLeadAbsent; (repeat' split) <;> simp

@[simp] theorem State.countLeadAbsent_railDue (s : State) :
    (s.countLeadAbsent).railDue = s.railDue := by
  unfold State.countLeadAbsent; (repeat' split) <;> simp

@[simp] theorem State.countLeadAbsent_choiceSeq (s : State) :
    (s.countLeadAbsent).choiceSeq = s.choiceSeq := by
  unfold State.countLeadAbsent; (repeat' split) <;> simp

/-! State.ftuClose -/

@[simp] theorem State.ftuClose_pins (s : State) :
    (s.ftuClose).pins = s.pins := by
  unfold State.ftuClose; dsimp only; split <;> rfl

@[simp] theorem State.ftuClose_straps (s : State) :
    (s.ftuClose).straps = s.straps := by
  unfold State.ftuClose; dsimp only; split <;> rfl

@[simp] theorem State.ftuClose_tribs (s : State) :
    (s.ftuClose).tribs = s.tribs := by
  unfold State.ftuClose; dsimp only; split <;> rfl

@[simp] theorem State.ftuClose_free (s : State) :
    (s.ftuClose).free = s.free := by
  unfold State.ftuClose; dsimp only; split <;> rfl

@[simp] theorem State.ftuClose_counters (s : State) :
    (s.ftuClose).counters = s.counters := by
  unfold State.ftuClose; dsimp only; split <;> rfl

@[simp] theorem State.ftuClose_monA (s : State) :
    (s.ftuClose).monA = s.monA := by
  unfold State.ftuClose; dsimp only; split <;> rfl

@[simp] theorem State.ftuClose_monB (s : State) :
    (s.ftuClose).monB = s.monB := by
  unfold State.ftuClose; dsimp only; split <;> rfl

@[simp] theorem State.ftuClose_modes (s : State) :
    (s.ftuClose).modes = s.modes := by
  unfold State.ftuClose; dsimp only; split <;> rfl

@[simp] theorem State.ftuClose_rail (s : State) :
    (s.ftuClose).rail = s.rail := by
  unfold State.ftuClose; dsimp only; split <;> rfl

@[simp] theorem State.ftuClose_listen (s : State) :
    (s.ftuClose).listen = s.listen := by
  unfold State.ftuClose; dsimp only; split <;> rfl

@[simp] theorem State.ftuClose_maint (s : State) :
    (s.ftuClose).maint = s.maint := by
  unfold State.ftuClose; dsimp only; split <;> rfl

@[simp] theorem State.ftuClose_out (s : State) :
    (s.ftuClose).out = s.out := by
  unfold State.ftuClose; dsimp only; split <;> rfl

@[simp] theorem State.ftuClose_pending (s : State) :
    (s.ftuClose).pending = s.pending := by
  unfold State.ftuClose; dsimp only; split <;> rfl

@[simp] theorem State.ftuClose_inputs (s : State) :
    (s.ftuClose).inputs = s.inputs := by
  unfold State.ftuClose; dsimp only; split <;> rfl

@[simp] theorem State.ftuClose_railDue (s : State) :
    (s.ftuClose).railDue = s.railDue := by
  unfold State.ftuClose; dsimp only; split <;> rfl

@[simp] theorem State.ftuClose_choiceSeq (s : State) :
    (s.ftuClose).choiceSeq = s.choiceSeq := by
  unfold State.ftuClose; dsimp only; split <;> rfl

/-! State.countOffset -/

@[simp] theorem State.countOffset_pins (s : State) :
    (s.countOffset).pins = s.pins := by
  unfold State.countOffset; (repeat' split) <;> rfl

@[simp] theorem State.countOffset_straps (s : State) :
    (s.countOffset).straps = s.straps := by
  unfold State.countOffset; (repeat' split) <;> rfl

@[simp] theorem State.countOffset_tribs (s : State) :
    (s.countOffset).tribs = s.tribs := by
  unfold State.countOffset; (repeat' split) <;> rfl

@[simp] theorem State.countOffset_free (s : State) :
    (s.countOffset).free = s.free := by
  unfold State.countOffset; (repeat' split) <;> rfl

@[simp] theorem State.countOffset_counters (s : State) :
    (s.countOffset).counters = s.counters := by
  unfold State.countOffset; (repeat' split) <;> rfl

@[simp] theorem State.countOffset_ftu (s : State) :
    (s.countOffset).ftu = s.ftu := by
  unfold State.countOffset; (repeat' split) <;> rfl

@[simp] theorem State.countOffset_monA (s : State) :
    (s.countOffset).monA = s.monA := by
  unfold State.countOffset; (repeat' split) <;> rfl

@[simp] theorem State.countOffset_monB (s : State) :
    (s.countOffset).monB = s.monB := by
  unfold State.countOffset; (repeat' split) <;> rfl

@[simp] theorem State.countOffset_selector (s : State) :
    (s.countOffset).selector = s.selector := by
  unfold State.countOffset; (repeat' split) <;> rfl

@[simp] theorem State.countOffset_rail (s : State) :
    (s.countOffset).rail = s.rail := by
  unfold State.countOffset; (repeat' split) <;> rfl

@[simp] theorem State.countOffset_listen (s : State) :
    (s.countOffset).listen = s.listen := by
  unfold State.countOffset; (repeat' split) <;> rfl

@[simp] theorem State.countOffset_maint (s : State) :
    (s.countOffset).maint = s.maint := by
  unfold State.countOffset; (repeat' split) <;> rfl

@[simp] theorem State.countOffset_out (s : State) :
    (s.countOffset).out = s.out := by
  unfold State.countOffset; (repeat' split) <;> rfl

@[simp] theorem State.countOffset_pending (s : State) :
    (s.countOffset).pending = s.pending := by
  unfold State.countOffset; (repeat' split) <;> rfl

@[simp] theorem State.countOffset_inputs (s : State) :
    (s.countOffset).inputs = s.inputs := by
  unfold State.countOffset; (repeat' split) <;> rfl

@[simp] theorem State.countOffset_railDue (s : State) :
    (s.countOffset).railDue = s.railDue := by
  unfold State.countOffset; (repeat' split) <;> rfl

@[simp] theorem State.countOffset_choiceSeq (s : State) :
    (s.countOffset).choiceSeq = s.choiceSeq := by
  unfold State.countOffset; (repeat' split) <;> rfl

/-! State.closeWork -/

@[simp] theorem State.closeWork_pins (s : State) :
    (s.closeWork).pins = s.pins := by
  simp [State.closeWork]

@[simp] theorem State.closeWork_straps (s : State) :
    (s.closeWork).straps = s.straps := by
  simp [State.closeWork]

@[simp] theorem State.closeWork_tribs (s : State) :
    (s.closeWork).tribs = s.tribs := by
  simp [State.closeWork]

@[simp] theorem State.closeWork_free (s : State) :
    (s.closeWork).free = s.free := by
  simp [State.closeWork]

@[simp] theorem State.closeWork_monA (s : State) :
    (s.closeWork).monA = s.monA := by
  simp [State.closeWork]

@[simp] theorem State.closeWork_monB (s : State) :
    (s.closeWork).monB = s.monB := by
  simp [State.closeWork]

@[simp] theorem State.closeWork_listen (s : State) :
    (s.closeWork).listen = s.listen := by
  simp [State.closeWork]

@[simp] theorem State.closeWork_maint (s : State) :
    (s.closeWork).maint = s.maint := by
  simp [State.closeWork]

@[simp] theorem State.closeWork_out (s : State) :
    (s.closeWork).out = s.out := by
  simp [State.closeWork]

@[simp] theorem State.closeWork_pending (s : State) :
    (s.closeWork).pending = s.pending := by
  simp [State.closeWork]

@[simp] theorem State.closeWork_inputs (s : State) :
    (s.closeWork).inputs = s.inputs := by
  simp [State.closeWork]

@[simp] theorem State.closeWork_railDue (s : State) :
    (s.closeWork).railDue = s.railDue := by
  simp [State.closeWork]

@[simp] theorem State.closeWork_choiceSeq (s : State) :
    (s.closeWork).choiceSeq = s.choiceSeq := by
  simp [State.closeWork]

/-! State.closeModes -/

@[simp] theorem State.closeModes_pins (s : State) (b : Bool) :
    (s.closeModes b).pins = s.pins := by
  unfold State.closeModes; (repeat' split) <;> simp

@[simp] theorem State.closeModes_straps (s : State) (b : Bool) :
    (s.closeModes b).straps = s.straps := by
  unfold State.closeModes; (repeat' split) <;> simp

@[simp] theorem State.closeModes_tribs (s : State) (b : Bool) :
    (s.closeModes b).tribs = s.tribs := by
  unfold State.closeModes; (repeat' split) <;> simp

@[simp] theorem State.closeModes_free (s : State) (b : Bool) :
    (s.closeModes b).free = s.free := by
  unfold State.closeModes; (repeat' split) <;> simp

@[simp] theorem State.closeModes_monA (s : State) (b : Bool) :
    (s.closeModes b).monA = s.monA := by
  unfold State.closeModes; (repeat' split) <;> simp

@[simp] theorem State.closeModes_monB (s : State) (b : Bool) :
    (s.closeModes b).monB = s.monB := by
  unfold State.closeModes; (repeat' split) <;> simp

@[simp] theorem State.closeModes_listen (s : State) (b : Bool) :
    (s.closeModes b).listen = s.listen := by
  unfold State.closeModes; (repeat' split) <;> simp

@[simp] theorem State.closeModes_maint (s : State) (b : Bool) :
    (s.closeModes b).maint = s.maint := by
  unfold State.closeModes; (repeat' split) <;> simp

@[simp] theorem State.closeModes_out (s : State) (b : Bool) :
    (s.closeModes b).out = s.out := by
  unfold State.closeModes; (repeat' split) <;> simp

@[simp] theorem State.closeModes_pending (s : State) (b : Bool) :
    (s.closeModes b).pending = s.pending := by
  unfold State.closeModes; (repeat' split) <;> simp

@[simp] theorem State.closeModes_inputs (s : State) (b : Bool) :
    (s.closeModes b).inputs = s.inputs := by
  unfold State.closeModes; (repeat' split) <;> simp

@[simp] theorem State.closeModes_railDue (s : State) (b : Bool) :
    (s.closeModes b).railDue = s.railDue := by
  unfold State.closeModes; (repeat' split) <;> simp

@[simp] theorem State.closeModes_choiceSeq (s : State) (b : Bool) :
    (s.closeModes b).choiceSeq = s.choiceSeq := by
  unfold State.closeModes; (repeat' split) <;> simp

/-! State.noteMark -/

@[simp] theorem State.noteMark_pins (s : State) :
    (s.noteMark).pins = s.pins := by
  unfold State.noteMark; (repeat' split) <;> rfl

@[simp] theorem State.noteMark_straps (s : State) :
    (s.noteMark).straps = s.straps := by
  unfold State.noteMark; (repeat' split) <;> rfl

@[simp] theorem State.noteMark_tribs (s : State) :
    (s.noteMark).tribs = s.tribs := by
  unfold State.noteMark; (repeat' split) <;> rfl

@[simp] theorem State.noteMark_free (s : State) :
    (s.noteMark).free = s.free := by
  unfold State.noteMark; (repeat' split) <;> rfl

@[simp] theorem State.noteMark_counters (s : State) :
    (s.noteMark).counters = s.counters := by
  unfold State.noteMark; (repeat' split) <;> rfl

@[simp] theorem State.noteMark_ftu (s : State) :
    (s.noteMark).ftu = s.ftu := by
  unfold State.noteMark; (repeat' split) <;> rfl

@[simp] theorem State.noteMark_monA (s : State) :
    (s.noteMark).monA = s.monA := by
  unfold State.noteMark; (repeat' split) <;> rfl

@[simp] theorem State.noteMark_monB (s : State) :
    (s.noteMark).monB = s.monB := by
  unfold State.noteMark; (repeat' split) <;> rfl

@[simp] theorem State.noteMark_selector (s : State) :
    (s.noteMark).selector = s.selector := by
  unfold State.noteMark; (repeat' split) <;> rfl

@[simp] theorem State.noteMark_modes (s : State) :
    (s.noteMark).modes = s.modes := by
  unfold State.noteMark; (repeat' split) <;> rfl

@[simp] theorem State.noteMark_listen (s : State) :
    (s.noteMark).listen = s.listen := by
  unfold State.noteMark; (repeat' split) <;> rfl

@[simp] theorem State.noteMark_flags (s : State) :
    (s.noteMark).flags = s.flags := by
  unfold State.noteMark; (repeat' split) <;> rfl

@[simp] theorem State.noteMark_maint (s : State) :
    (s.noteMark).maint = s.maint := by
  unfold State.noteMark; (repeat' split) <;> rfl

@[simp] theorem State.noteMark_out (s : State) :
    (s.noteMark).out = s.out := by
  unfold State.noteMark; (repeat' split) <;> rfl

@[simp] theorem State.noteMark_pending (s : State) :
    (s.noteMark).pending = s.pending := by
  unfold State.noteMark; (repeat' split) <;> rfl

@[simp] theorem State.noteMark_inputs (s : State) :
    (s.noteMark).inputs = s.inputs := by
  unfold State.noteMark; (repeat' split) <;> rfl

@[simp] theorem State.noteMark_railDue (s : State) :
    (s.noteMark).railDue = s.railDue := by
  unfold State.noteMark; (repeat' split) <;> rfl

@[simp] theorem State.noteMark_choiceSeq (s : State) :
    (s.noteMark).choiceSeq = s.choiceSeq := by
  unfold State.noteMark; (repeat' split) <;> rfl

/-! State.countBackoff -/

@[simp] theorem State.countBackoff_pins (s : State) :
    (s.countBackoff).pins = s.pins := rfl

@[simp] theorem State.countBackoff_straps (s : State) :
    (s.countBackoff).straps = s.straps := rfl

@[simp] theorem State.countBackoff_tribs (s : State) :
    (s.countBackoff).tribs = s.tribs := rfl

@[simp] theorem State.countBackoff_free (s : State) :
    (s.countBackoff).free = s.free := rfl

@[simp] theorem State.countBackoff_counters (s : State) :
    (s.countBackoff).counters = s.counters := rfl

@[simp] theorem State.countBackoff_ftu (s : State) :
    (s.countBackoff).ftu = s.ftu := rfl

@[simp] theorem State.countBackoff_monA (s : State) :
    (s.countBackoff).monA = s.monA := rfl

@[simp] theorem State.countBackoff_monB (s : State) :
    (s.countBackoff).monB = s.monB := rfl

@[simp] theorem State.countBackoff_selector (s : State) :
    (s.countBackoff).selector = s.selector := rfl

@[simp] theorem State.countBackoff_modes (s : State) :
    (s.countBackoff).modes = s.modes := rfl

@[simp] theorem State.countBackoff_listen (s : State) :
    (s.countBackoff).listen = s.listen := rfl

@[simp] theorem State.countBackoff_flags (s : State) :
    (s.countBackoff).flags = s.flags := rfl

@[simp] theorem State.countBackoff_maint (s : State) :
    (s.countBackoff).maint = s.maint := rfl

@[simp] theorem State.countBackoff_out (s : State) :
    (s.countBackoff).out = s.out := rfl

@[simp] theorem State.countBackoff_pending (s : State) :
    (s.countBackoff).pending = s.pending := rfl

@[simp] theorem State.countBackoff_inputs (s : State) :
    (s.countBackoff).inputs = s.inputs := rfl

@[simp] theorem State.countBackoff_railDue (s : State) :
    (s.countBackoff).railDue = s.railDue := rfl

@[simp] theorem State.countBackoff_choiceSeq (s : State) :
    (s.countBackoff).choiceSeq = s.choiceSeq := rfl

/-! State.relabelBy -/

@[simp] theorem State.relabelBy_pins (s : State) (k : Nat) :
    (s.relabelBy k).pins = s.pins := by
  unfold State.relabelBy; dsimp only; split <;> rfl

@[simp] theorem State.relabelBy_straps (s : State) (k : Nat) :
    (s.relabelBy k).straps = s.straps := by
  unfold State.relabelBy; dsimp only; split <;> rfl

@[simp] theorem State.relabelBy_tribs (s : State) (k : Nat) :
    (s.relabelBy k).tribs = s.tribs := by
  unfold State.relabelBy; dsimp only; split <;> rfl

@[simp] theorem State.relabelBy_free (s : State) (k : Nat) :
    (s.relabelBy k).free = s.free := by
  unfold State.relabelBy; dsimp only; split <;> rfl

@[simp] theorem State.relabelBy_monA (s : State) (k : Nat) :
    (s.relabelBy k).monA = s.monA := by
  unfold State.relabelBy; dsimp only; split <;> rfl

@[simp] theorem State.relabelBy_monB (s : State) (k : Nat) :
    (s.relabelBy k).monB = s.monB := by
  unfold State.relabelBy; dsimp only; split <;> rfl

@[simp] theorem State.relabelBy_selector (s : State) (k : Nat) :
    (s.relabelBy k).selector = s.selector := by
  unfold State.relabelBy; dsimp only; split <;> rfl

@[simp] theorem State.relabelBy_modes (s : State) (k : Nat) :
    (s.relabelBy k).modes = s.modes := by
  unfold State.relabelBy; dsimp only; split <;> rfl

@[simp] theorem State.relabelBy_listen (s : State) (k : Nat) :
    (s.relabelBy k).listen = s.listen := by
  unfold State.relabelBy; dsimp only; split <;> rfl

@[simp] theorem State.relabelBy_maint (s : State) (k : Nat) :
    (s.relabelBy k).maint = s.maint := by
  unfold State.relabelBy; dsimp only; split <;> rfl

@[simp] theorem State.relabelBy_out (s : State) (k : Nat) :
    (s.relabelBy k).out = s.out := by
  unfold State.relabelBy; dsimp only; split <;> rfl

@[simp] theorem State.relabelBy_pending (s : State) (k : Nat) :
    (s.relabelBy k).pending = s.pending := by
  unfold State.relabelBy; dsimp only; split <;> rfl

@[simp] theorem State.relabelBy_inputs (s : State) (k : Nat) :
    (s.relabelBy k).inputs = s.inputs := by
  unfold State.relabelBy; dsimp only; split <;> rfl

@[simp] theorem State.relabelBy_railDue (s : State) (k : Nat) :
    (s.relabelBy k).railDue = s.railDue := by
  unfold State.relabelBy; dsimp only; split <;> rfl

@[simp] theorem State.relabelBy_choiceSeq (s : State) (k : Nat) :
    (s.relabelBy k).choiceSeq = s.choiceSeq := by
  unfold State.relabelBy; dsimp only; split <;> rfl

/-! State.relabelStep -/

@[simp] theorem State.relabelStep_pins (s : State) :
    (s.relabelStep).pins = s.pins := by
  unfold State.relabelStep; (repeat' split) <;> simp

@[simp] theorem State.relabelStep_straps (s : State) :
    (s.relabelStep).straps = s.straps := by
  unfold State.relabelStep; (repeat' split) <;> simp

@[simp] theorem State.relabelStep_tribs (s : State) :
    (s.relabelStep).tribs = s.tribs := by
  unfold State.relabelStep; (repeat' split) <;> simp

@[simp] theorem State.relabelStep_free (s : State) :
    (s.relabelStep).free = s.free := by
  unfold State.relabelStep; (repeat' split) <;> simp

@[simp] theorem State.relabelStep_monA (s : State) :
    (s.relabelStep).monA = s.monA := by
  unfold State.relabelStep; (repeat' split) <;> simp

@[simp] theorem State.relabelStep_monB (s : State) :
    (s.relabelStep).monB = s.monB := by
  unfold State.relabelStep; (repeat' split) <;> simp

@[simp] theorem State.relabelStep_selector (s : State) :
    (s.relabelStep).selector = s.selector := by
  unfold State.relabelStep; (repeat' split) <;> simp

@[simp] theorem State.relabelStep_modes (s : State) :
    (s.relabelStep).modes = s.modes := by
  unfold State.relabelStep; (repeat' split) <;> simp

@[simp] theorem State.relabelStep_listen (s : State) :
    (s.relabelStep).listen = s.listen := by
  unfold State.relabelStep; (repeat' split) <;> simp

@[simp] theorem State.relabelStep_maint (s : State) :
    (s.relabelStep).maint = s.maint := by
  unfold State.relabelStep; (repeat' split) <;> simp

@[simp] theorem State.relabelStep_out (s : State) :
    (s.relabelStep).out = s.out := by
  unfold State.relabelStep; (repeat' split) <;> simp

@[simp] theorem State.relabelStep_pending (s : State) :
    (s.relabelStep).pending = s.pending := by
  unfold State.relabelStep; (repeat' split) <;> simp

@[simp] theorem State.relabelStep_inputs (s : State) :
    (s.relabelStep).inputs = s.inputs := by
  unfold State.relabelStep; (repeat' split) <;> simp

@[simp] theorem State.relabelStep_railDue (s : State) :
    (s.relabelStep).railDue = s.railDue := by
  unfold State.relabelStep; (repeat' split) <;> simp

@[simp] theorem State.relabelStep_choiceSeq (s : State) :
    (s.relabelStep).choiceSeq = s.choiceSeq := by
  unfold State.relabelStep; (repeat' split) <;> simp

/-! State.closeMultiframe -/

@[simp] theorem State.closeMultiframe_pins (s : State) :
    (s.closeMultiframe).pins = s.pins := by
  simp [State.closeMultiframe]

@[simp] theorem State.closeMultiframe_straps (s : State) :
    (s.closeMultiframe).straps = s.straps := by
  simp [State.closeMultiframe]

@[simp] theorem State.closeMultiframe_tribs (s : State) :
    (s.closeMultiframe).tribs = s.tribs := by
  simp [State.closeMultiframe]

@[simp] theorem State.closeMultiframe_free (s : State) :
    (s.closeMultiframe).free = s.free := by
  simp [State.closeMultiframe]

@[simp] theorem State.closeMultiframe_monA (s : State) :
    (s.closeMultiframe).monA = s.monA := by
  simp [State.closeMultiframe]

@[simp] theorem State.closeMultiframe_monB (s : State) :
    (s.closeMultiframe).monB = s.monB := by
  simp [State.closeMultiframe]

@[simp] theorem State.closeMultiframe_selector (s : State) :
    (s.closeMultiframe).selector = s.selector := by
  simp [State.closeMultiframe]

@[simp] theorem State.closeMultiframe_modes (s : State) :
    (s.closeMultiframe).modes = s.modes := by
  simp [State.closeMultiframe]

@[simp] theorem State.closeMultiframe_listen (s : State) :
    (s.closeMultiframe).listen = s.listen := by
  simp [State.closeMultiframe]

@[simp] theorem State.closeMultiframe_maint (s : State) :
    (s.closeMultiframe).maint = s.maint := by
  simp [State.closeMultiframe]

@[simp] theorem State.closeMultiframe_out (s : State) :
    (s.closeMultiframe).out = s.out := by
  simp [State.closeMultiframe]

@[simp] theorem State.closeMultiframe_pending (s : State) :
    (s.closeMultiframe).pending = s.pending := by
  simp [State.closeMultiframe]

@[simp] theorem State.closeMultiframe_inputs (s : State) :
    (s.closeMultiframe).inputs = s.inputs := by
  simp [State.closeMultiframe]

@[simp] theorem State.closeMultiframe_railDue (s : State) :
    (s.closeMultiframe).railDue = s.railDue := by
  simp [State.closeMultiframe]

@[simp] theorem State.closeMultiframe_choiceSeq (s : State) :
    (s.closeMultiframe).choiceSeq = s.choiceSeq := by
  simp [State.closeMultiframe]

/-! State.marksAtClose -/

@[simp] theorem State.marksAtClose_pins (s : State) :
    (s.marksAtClose).pins = s.pins := by
  unfold State.marksAtClose; (repeat' split) <;> simp

@[simp] theorem State.marksAtClose_straps (s : State) :
    (s.marksAtClose).straps = s.straps := by
  unfold State.marksAtClose; (repeat' split) <;> simp

@[simp] theorem State.marksAtClose_tribs (s : State) :
    (s.marksAtClose).tribs = s.tribs := by
  unfold State.marksAtClose; (repeat' split) <;> simp

@[simp] theorem State.marksAtClose_free (s : State) :
    (s.marksAtClose).free = s.free := by
  unfold State.marksAtClose; (repeat' split) <;> simp

@[simp] theorem State.marksAtClose_monA (s : State) :
    (s.marksAtClose).monA = s.monA := by
  unfold State.marksAtClose; (repeat' split) <;> simp

@[simp] theorem State.marksAtClose_monB (s : State) :
    (s.marksAtClose).monB = s.monB := by
  unfold State.marksAtClose; (repeat' split) <;> simp

@[simp] theorem State.marksAtClose_selector (s : State) :
    (s.marksAtClose).selector = s.selector := by
  unfold State.marksAtClose; (repeat' split) <;> simp

@[simp] theorem State.marksAtClose_modes (s : State) :
    (s.marksAtClose).modes = s.modes := by
  unfold State.marksAtClose; (repeat' split) <;> simp

@[simp] theorem State.marksAtClose_listen (s : State) :
    (s.marksAtClose).listen = s.listen := by
  unfold State.marksAtClose; (repeat' split) <;> simp

@[simp] theorem State.marksAtClose_maint (s : State) :
    (s.marksAtClose).maint = s.maint := by
  unfold State.marksAtClose; (repeat' split) <;> simp

@[simp] theorem State.marksAtClose_out (s : State) :
    (s.marksAtClose).out = s.out := by
  unfold State.marksAtClose; (repeat' split) <;> simp

@[simp] theorem State.marksAtClose_pending (s : State) :
    (s.marksAtClose).pending = s.pending := by
  unfold State.marksAtClose; (repeat' split) <;> simp

@[simp] theorem State.marksAtClose_inputs (s : State) :
    (s.marksAtClose).inputs = s.inputs := by
  unfold State.marksAtClose; (repeat' split) <;> simp

@[simp] theorem State.marksAtClose_railDue (s : State) :
    (s.marksAtClose).railDue = s.railDue := by
  unfold State.marksAtClose; (repeat' split) <;> simp

@[simp] theorem State.marksAtClose_choiceSeq (s : State) :
    (s.marksAtClose).choiceSeq = s.choiceSeq := by
  unfold State.marksAtClose; (repeat' split) <;> simp

/-! State.requestJoin -/

@[simp] theorem State.requestJoin_pins (s : State) (n : Nat) :
    (s.requestJoin n).pins = s.pins := rfl

@[simp] theorem State.requestJoin_straps (s : State) (n : Nat) :
    (s.requestJoin n).straps = s.straps := rfl

@[simp] theorem State.requestJoin_tribs (s : State) (n : Nat) :
    (s.requestJoin n).tribs = s.tribs := rfl

@[simp] theorem State.requestJoin_free (s : State) (n : Nat) :
    (s.requestJoin n).free = s.free := rfl

@[simp] theorem State.requestJoin_counters (s : State) (n : Nat) :
    (s.requestJoin n).counters = s.counters := rfl

@[simp] theorem State.requestJoin_monA (s : State) (n : Nat) :
    (s.requestJoin n).monA = s.monA := rfl

@[simp] theorem State.requestJoin_monB (s : State) (n : Nat) :
    (s.requestJoin n).monB = s.monB := rfl

@[simp] theorem State.requestJoin_selector (s : State) (n : Nat) :
    (s.requestJoin n).selector = s.selector := rfl

@[simp] theorem State.requestJoin_modes (s : State) (n : Nat) :
    (s.requestJoin n).modes = s.modes := rfl

@[simp] theorem State.requestJoin_rail (s : State) (n : Nat) :
    (s.requestJoin n).rail = s.rail := rfl

@[simp] theorem State.requestJoin_flags (s : State) (n : Nat) :
    (s.requestJoin n).flags = s.flags := rfl

@[simp] theorem State.requestJoin_maint (s : State) (n : Nat) :
    (s.requestJoin n).maint = s.maint := rfl

@[simp] theorem State.requestJoin_out (s : State) (n : Nat) :
    (s.requestJoin n).out = s.out := rfl

@[simp] theorem State.requestJoin_pending (s : State) (n : Nat) :
    (s.requestJoin n).pending = s.pending := rfl

@[simp] theorem State.requestJoin_inputs (s : State) (n : Nat) :
    (s.requestJoin n).inputs = s.inputs := rfl

@[simp] theorem State.requestJoin_railDue (s : State) (n : Nat) :
    (s.requestJoin n).railDue = s.railDue := rfl

@[simp] theorem State.requestJoin_choiceSeq (s : State) (n : Nat) :
    (s.requestJoin n).choiceSeq = s.choiceSeq := rfl

/-! State.decideJoin -/

@[simp] theorem State.decideJoin_pins (s : State) :
    (s.decideJoin).pins = s.pins := by
  unfold State.decideJoin; (repeat' split) <;> simp

@[simp] theorem State.decideJoin_straps (s : State) :
    (s.decideJoin).straps = s.straps := by
  unfold State.decideJoin; (repeat' split) <;> simp

@[simp] theorem State.decideJoin_tribs (s : State) :
    (s.decideJoin).tribs = s.tribs := by
  unfold State.decideJoin; (repeat' split) <;> simp

@[simp] theorem State.decideJoin_free (s : State) :
    (s.decideJoin).free = s.free := by
  unfold State.decideJoin; (repeat' split) <;> simp

@[simp] theorem State.decideJoin_counters (s : State) :
    (s.decideJoin).counters = s.counters := by
  unfold State.decideJoin; (repeat' split) <;> simp

@[simp] theorem State.decideJoin_monA (s : State) :
    (s.decideJoin).monA = s.monA := by
  unfold State.decideJoin; (repeat' split) <;> simp

@[simp] theorem State.decideJoin_monB (s : State) :
    (s.decideJoin).monB = s.monB := by
  unfold State.decideJoin; (repeat' split) <;> simp

@[simp] theorem State.decideJoin_selector (s : State) :
    (s.decideJoin).selector = s.selector := by
  unfold State.decideJoin; (repeat' split) <;> simp

@[simp] theorem State.decideJoin_modes (s : State) :
    (s.decideJoin).modes = s.modes := by
  unfold State.decideJoin; (repeat' split) <;> simp

@[simp] theorem State.decideJoin_rail (s : State) :
    (s.decideJoin).rail = s.rail := by
  unfold State.decideJoin; (repeat' split) <;> simp

@[simp] theorem State.decideJoin_maint (s : State) :
    (s.decideJoin).maint = s.maint := by
  unfold State.decideJoin; (repeat' split) <;> simp

@[simp] theorem State.decideJoin_out (s : State) :
    (s.decideJoin).out = s.out := by
  unfold State.decideJoin; (repeat' split) <;> simp

@[simp] theorem State.decideJoin_pending (s : State) :
    (s.decideJoin).pending = s.pending := by
  unfold State.decideJoin; (repeat' split) <;> simp

@[simp] theorem State.decideJoin_inputs (s : State) :
    (s.decideJoin).inputs = s.inputs := by
  unfold State.decideJoin; (repeat' split) <;> simp

@[simp] theorem State.decideJoin_railDue (s : State) :
    (s.decideJoin).railDue = s.railDue := by
  unfold State.decideJoin; (repeat' split) <;> simp

@[simp] theorem State.decideJoin_choiceSeq (s : State) :
    (s.decideJoin).choiceSeq = s.choiceSeq := by
  unfold State.decideJoin; (repeat' split) <;> simp

/-! State.listenAtClose -/

@[simp] theorem State.listenAtClose_pins (s : State) (h : Option HeldWindow) :
    (s.listenAtClose h).pins = s.pins := by
  unfold State.listenAtClose; (repeat' split) <;> simp

@[simp] theorem State.listenAtClose_straps (s : State) (h : Option HeldWindow) :
    (s.listenAtClose h).straps = s.straps := by
  unfold State.listenAtClose; (repeat' split) <;> simp

@[simp] theorem State.listenAtClose_tribs (s : State) (h : Option HeldWindow) :
    (s.listenAtClose h).tribs = s.tribs := by
  unfold State.listenAtClose; (repeat' split) <;> simp

@[simp] theorem State.listenAtClose_free (s : State) (h : Option HeldWindow) :
    (s.listenAtClose h).free = s.free := by
  unfold State.listenAtClose; (repeat' split) <;> simp

@[simp] theorem State.listenAtClose_counters (s : State) (h : Option HeldWindow) :
    (s.listenAtClose h).counters = s.counters := by
  unfold State.listenAtClose; (repeat' split) <;> simp

@[simp] theorem State.listenAtClose_monA (s : State) (h : Option HeldWindow) :
    (s.listenAtClose h).monA = s.monA := by
  unfold State.listenAtClose; (repeat' split) <;> simp

@[simp] theorem State.listenAtClose_monB (s : State) (h : Option HeldWindow) :
    (s.listenAtClose h).monB = s.monB := by
  unfold State.listenAtClose; (repeat' split) <;> simp

@[simp] theorem State.listenAtClose_selector (s : State) (h : Option HeldWindow) :
    (s.listenAtClose h).selector = s.selector := by
  unfold State.listenAtClose; (repeat' split) <;> simp

@[simp] theorem State.listenAtClose_modes (s : State) (h : Option HeldWindow) :
    (s.listenAtClose h).modes = s.modes := by
  unfold State.listenAtClose; (repeat' split) <;> simp

@[simp] theorem State.listenAtClose_rail (s : State) (h : Option HeldWindow) :
    (s.listenAtClose h).rail = s.rail := by
  unfold State.listenAtClose; (repeat' split) <;> simp

@[simp] theorem State.listenAtClose_maint (s : State) (h : Option HeldWindow) :
    (s.listenAtClose h).maint = s.maint := by
  unfold State.listenAtClose; (repeat' split) <;> simp

@[simp] theorem State.listenAtClose_out (s : State) (h : Option HeldWindow) :
    (s.listenAtClose h).out = s.out := by
  unfold State.listenAtClose; (repeat' split) <;> simp

@[simp] theorem State.listenAtClose_pending (s : State) (h : Option HeldWindow) :
    (s.listenAtClose h).pending = s.pending := by
  unfold State.listenAtClose; (repeat' split) <;> simp

@[simp] theorem State.listenAtClose_inputs (s : State) (h : Option HeldWindow) :
    (s.listenAtClose h).inputs = s.inputs := by
  unfold State.listenAtClose; (repeat' split) <;> simp

@[simp] theorem State.listenAtClose_railDue (s : State) (h : Option HeldWindow) :
    (s.listenAtClose h).railDue = s.railDue := by
  unfold State.listenAtClose; (repeat' split) <;> simp

@[simp] theorem State.listenAtClose_choiceSeq (s : State) (h : Option HeldWindow) :
    (s.listenAtClose h).choiceSeq = s.choiceSeq := by
  unfold State.listenAtClose; (repeat' split) <;> simp

/-! State.renewWindows -/

@[simp] theorem State.renewWindows_pins (s : State) :
    (s.renewWindows).pins = s.pins := rfl

@[simp] theorem State.renewWindows_straps (s : State) :
    (s.renewWindows).straps = s.straps := rfl

@[simp] theorem State.renewWindows_tribs (s : State) :
    (s.renewWindows).tribs = s.tribs := rfl

@[simp] theorem State.renewWindows_free (s : State) :
    (s.renewWindows).free = s.free := rfl

@[simp] theorem State.renewWindows_counters (s : State) :
    (s.renewWindows).counters = s.counters := rfl

@[simp] theorem State.renewWindows_ftu (s : State) :
    (s.renewWindows).ftu = s.ftu := rfl

@[simp] theorem State.renewWindows_monA (s : State) :
    (s.renewWindows).monA = s.monA := rfl

@[simp] theorem State.renewWindows_monB (s : State) :
    (s.renewWindows).monB = s.monB := rfl

@[simp] theorem State.renewWindows_selector (s : State) :
    (s.renewWindows).selector = s.selector := rfl

@[simp] theorem State.renewWindows_modes (s : State) :
    (s.renewWindows).modes = s.modes := rfl

@[simp] theorem State.renewWindows_listen (s : State) :
    (s.renewWindows).listen = s.listen := rfl

@[simp] theorem State.renewWindows_flags (s : State) :
    (s.renewWindows).flags = s.flags := rfl

@[simp] theorem State.renewWindows_maint (s : State) :
    (s.renewWindows).maint = s.maint := rfl

@[simp] theorem State.renewWindows_out (s : State) :
    (s.renewWindows).out = s.out := rfl

@[simp] theorem State.renewWindows_pending (s : State) :
    (s.renewWindows).pending = s.pending := rfl

@[simp] theorem State.renewWindows_inputs (s : State) :
    (s.renewWindows).inputs = s.inputs := rfl

@[simp] theorem State.renewWindows_railDue (s : State) :
    (s.renewWindows).railDue = s.railDue := rfl

@[simp] theorem State.renewWindows_choiceSeq (s : State) :
    (s.renewWindows).choiceSeq = s.choiceSeq := rfl

/-! State.offerEdge -/

@[simp] theorem State.offerEdge_pins (s : State) (r : RefId) (n : Nat) (i : Interval) :
    (s.offerEdge r n i).pins = s.pins := by
  unfold State.offerEdge; split <;> rfl

@[simp] theorem State.offerEdge_straps (s : State) (r : RefId) (n : Nat) (i : Interval) :
    (s.offerEdge r n i).straps = s.straps := by
  unfold State.offerEdge; split <;> rfl

@[simp] theorem State.offerEdge_tribs (s : State) (r : RefId) (n : Nat) (i : Interval) :
    (s.offerEdge r n i).tribs = s.tribs := by
  unfold State.offerEdge; split <;> rfl

@[simp] theorem State.offerEdge_free (s : State) (r : RefId) (n : Nat) (i : Interval) :
    (s.offerEdge r n i).free = s.free := by
  unfold State.offerEdge; split <;> rfl

@[simp] theorem State.offerEdge_counters (s : State) (r : RefId) (n : Nat) (i : Interval) :
    (s.offerEdge r n i).counters = s.counters := by
  unfold State.offerEdge; split <;> rfl

@[simp] theorem State.offerEdge_ftu (s : State) (r : RefId) (n : Nat) (i : Interval) :
    (s.offerEdge r n i).ftu = s.ftu := by
  unfold State.offerEdge; split <;> rfl

@[simp] theorem State.offerEdge_monA (s : State) (r : RefId) (n : Nat) (i : Interval) :
    (s.offerEdge r n i).monA = s.monA := by
  unfold State.offerEdge; split <;> rfl

@[simp] theorem State.offerEdge_monB (s : State) (r : RefId) (n : Nat) (i : Interval) :
    (s.offerEdge r n i).monB = s.monB := by
  unfold State.offerEdge; split <;> rfl

@[simp] theorem State.offerEdge_modes (s : State) (r : RefId) (n : Nat) (i : Interval) :
    (s.offerEdge r n i).modes = s.modes := by
  unfold State.offerEdge; split <;> rfl

@[simp] theorem State.offerEdge_rail (s : State) (r : RefId) (n : Nat) (i : Interval) :
    (s.offerEdge r n i).rail = s.rail := by
  unfold State.offerEdge; split <;> rfl

@[simp] theorem State.offerEdge_listen (s : State) (r : RefId) (n : Nat) (i : Interval) :
    (s.offerEdge r n i).listen = s.listen := by
  unfold State.offerEdge; split <;> rfl

@[simp] theorem State.offerEdge_flags (s : State) (r : RefId) (n : Nat) (i : Interval) :
    (s.offerEdge r n i).flags = s.flags := by
  unfold State.offerEdge; split <;> rfl

@[simp] theorem State.offerEdge_maint (s : State) (r : RefId) (n : Nat) (i : Interval) :
    (s.offerEdge r n i).maint = s.maint := by
  unfold State.offerEdge; split <;> rfl

@[simp] theorem State.offerEdge_out (s : State) (r : RefId) (n : Nat) (i : Interval) :
    (s.offerEdge r n i).out = s.out := by
  unfold State.offerEdge; split <;> rfl

@[simp] theorem State.offerEdge_pending (s : State) (r : RefId) (n : Nat) (i : Interval) :
    (s.offerEdge r n i).pending = s.pending := by
  unfold State.offerEdge; split <;> rfl

@[simp] theorem State.offerEdge_inputs (s : State) (r : RefId) (n : Nat) (i : Interval) :
    (s.offerEdge r n i).inputs = s.inputs := by
  unfold State.offerEdge; split <;> rfl

@[simp] theorem State.offerEdge_railDue (s : State) (r : RefId) (n : Nat) (i : Interval) :
    (s.offerEdge r n i).railDue = s.railDue := by
  unfold State.offerEdge; split <;> rfl

@[simp] theorem State.offerEdge_choiceSeq (s : State) (r : RefId) (n : Nat) (i : Interval) :
    (s.offerEdge r n i).choiceSeq = s.choiceSeq := by
  unfold State.offerEdge; split <;> rfl

/-! State.offerNothing -/

@[simp] theorem State.offerNothing_pins (s : State) (r : RefId) :
    (s.offerNothing r).pins = s.pins := by
  unfold State.offerNothing; split <;> rfl

@[simp] theorem State.offerNothing_straps (s : State) (r : RefId) :
    (s.offerNothing r).straps = s.straps := by
  unfold State.offerNothing; split <;> rfl

@[simp] theorem State.offerNothing_tribs (s : State) (r : RefId) :
    (s.offerNothing r).tribs = s.tribs := by
  unfold State.offerNothing; split <;> rfl

@[simp] theorem State.offerNothing_free (s : State) (r : RefId) :
    (s.offerNothing r).free = s.free := by
  unfold State.offerNothing; split <;> rfl

@[simp] theorem State.offerNothing_counters (s : State) (r : RefId) :
    (s.offerNothing r).counters = s.counters := by
  unfold State.offerNothing; split <;> rfl

@[simp] theorem State.offerNothing_ftu (s : State) (r : RefId) :
    (s.offerNothing r).ftu = s.ftu := by
  unfold State.offerNothing; split <;> rfl

@[simp] theorem State.offerNothing_monA (s : State) (r : RefId) :
    (s.offerNothing r).monA = s.monA := by
  unfold State.offerNothing; split <;> rfl

@[simp] theorem State.offerNothing_monB (s : State) (r : RefId) :
    (s.offerNothing r).monB = s.monB := by
  unfold State.offerNothing; split <;> rfl

@[simp] theorem State.offerNothing_modes (s : State) (r : RefId) :
    (s.offerNothing r).modes = s.modes := by
  unfold State.offerNothing; split <;> rfl

@[simp] theorem State.offerNothing_rail (s : State) (r : RefId) :
    (s.offerNothing r).rail = s.rail := by
  unfold State.offerNothing; split <;> rfl

@[simp] theorem State.offerNothing_listen (s : State) (r : RefId) :
    (s.offerNothing r).listen = s.listen := by
  unfold State.offerNothing; split <;> rfl

@[simp] theorem State.offerNothing_flags (s : State) (r : RefId) :
    (s.offerNothing r).flags = s.flags := by
  unfold State.offerNothing; split <;> rfl

@[simp] theorem State.offerNothing_maint (s : State) (r : RefId) :
    (s.offerNothing r).maint = s.maint := by
  unfold State.offerNothing; split <;> rfl

@[simp] theorem State.offerNothing_out (s : State) (r : RefId) :
    (s.offerNothing r).out = s.out := by
  unfold State.offerNothing; split <;> rfl

@[simp] theorem State.offerNothing_pending (s : State) (r : RefId) :
    (s.offerNothing r).pending = s.pending := by
  unfold State.offerNothing; split <;> rfl

@[simp] theorem State.offerNothing_inputs (s : State) (r : RefId) :
    (s.offerNothing r).inputs = s.inputs := by
  unfold State.offerNothing; split <;> rfl

@[simp] theorem State.offerNothing_railDue (s : State) (r : RefId) :
    (s.offerNothing r).railDue = s.railDue := by
  unfold State.offerNothing; split <;> rfl

@[simp] theorem State.offerNothing_choiceSeq (s : State) (r : RefId) :
    (s.offerNothing r).choiceSeq = s.choiceSeq := by
  unfold State.offerNothing; split <;> rfl

/-! State.noteQualified -/

@[simp] theorem State.noteQualified_pins (s : State) :
    (s.noteQualified).pins = s.pins := by
  unfold State.noteQualified; split <;> simp

@[simp] theorem State.noteQualified_straps (s : State) :
    (s.noteQualified).straps = s.straps := by
  unfold State.noteQualified; split <;> simp

@[simp] theorem State.noteQualified_tribs (s : State) :
    (s.noteQualified).tribs = s.tribs := by
  unfold State.noteQualified; split <;> simp

@[simp] theorem State.noteQualified_free (s : State) :
    (s.noteQualified).free = s.free := by
  unfold State.noteQualified; split <;> simp

@[simp] theorem State.noteQualified_monA (s : State) :
    (s.noteQualified).monA = s.monA := by
  unfold State.noteQualified; split <;> simp

@[simp] theorem State.noteQualified_monB (s : State) :
    (s.noteQualified).monB = s.monB := by
  unfold State.noteQualified; split <;> simp

@[simp] theorem State.noteQualified_listen (s : State) :
    (s.noteQualified).listen = s.listen := by
  unfold State.noteQualified; split <;> simp

@[simp] theorem State.noteQualified_flags (s : State) :
    (s.noteQualified).flags = s.flags := by
  unfold State.noteQualified; split <;> simp

@[simp] theorem State.noteQualified_maint (s : State) :
    (s.noteQualified).maint = s.maint := by
  unfold State.noteQualified; split <;> simp

@[simp] theorem State.noteQualified_out (s : State) :
    (s.noteQualified).out = s.out := by
  unfold State.noteQualified; split <;> simp

@[simp] theorem State.noteQualified_pending (s : State) :
    (s.noteQualified).pending = s.pending := by
  unfold State.noteQualified; split <;> simp

@[simp] theorem State.noteQualified_inputs (s : State) :
    (s.noteQualified).inputs = s.inputs := by
  unfold State.noteQualified; split <;> simp

@[simp] theorem State.noteQualified_railDue (s : State) :
    (s.noteQualified).railDue = s.railDue := by
  unfold State.noteQualified; split <;> simp

@[simp] theorem State.noteQualified_choiceSeq (s : State) :
    (s.noteQualified).choiceSeq = s.choiceSeq := by
  unfold State.noteQualified; split <;> simp

/-! State.loseReference -/

@[simp] theorem State.loseReference_pins (s : State) (r : RefId) :
    (s.loseReference r).pins = s.pins := by
  unfold State.loseReference; dsimp only; (repeat' split) <;> simp

@[simp] theorem State.loseReference_straps (s : State) (r : RefId) :
    (s.loseReference r).straps = s.straps := by
  unfold State.loseReference; dsimp only; (repeat' split) <;> simp

@[simp] theorem State.loseReference_tribs (s : State) (r : RefId) :
    (s.loseReference r).tribs = s.tribs := by
  unfold State.loseReference; dsimp only; (repeat' split) <;> simp

@[simp] theorem State.loseReference_free (s : State) (r : RefId) :
    (s.loseReference r).free = s.free := by
  unfold State.loseReference; dsimp only; (repeat' split) <;> simp

@[simp] theorem State.loseReference_listen (s : State) (r : RefId) :
    (s.loseReference r).listen = s.listen := by
  unfold State.loseReference; dsimp only; (repeat' split) <;> simp

@[simp] theorem State.loseReference_maint (s : State) (r : RefId) :
    (s.loseReference r).maint = s.maint := by
  unfold State.loseReference; dsimp only; (repeat' split) <;> simp

@[simp] theorem State.loseReference_out (s : State) (r : RefId) :
    (s.loseReference r).out = s.out := by
  unfold State.loseReference; dsimp only; (repeat' split) <;> simp

@[simp] theorem State.loseReference_pending (s : State) (r : RefId) :
    (s.loseReference r).pending = s.pending := by
  unfold State.loseReference; dsimp only; (repeat' split) <;> simp

@[simp] theorem State.loseReference_inputs (s : State) (r : RefId) :
    (s.loseReference r).inputs = s.inputs := by
  unfold State.loseReference; dsimp only; (repeat' split) <;> simp

@[simp] theorem State.loseReference_railDue (s : State) (r : RefId) :
    (s.loseReference r).railDue = s.railDue := by
  unfold State.loseReference; dsimp only; (repeat' split) <;> simp

@[simp] theorem State.loseReference_choiceSeq (s : State) (r : RefId) :
    (s.loseReference r).choiceSeq = s.choiceSeq := by
  unfold State.loseReference; dsimp only; (repeat' split) <;> simp

/-! State.impair -/

@[simp] theorem State.impair_pins (s : State) (r : RefId) :
    (s.impair r).pins = s.pins := by
  unfold State.impair; dsimp only; split <;> simp

@[simp] theorem State.impair_straps (s : State) (r : RefId) :
    (s.impair r).straps = s.straps := by
  unfold State.impair; dsimp only; split <;> simp

@[simp] theorem State.impair_tribs (s : State) (r : RefId) :
    (s.impair r).tribs = s.tribs := by
  unfold State.impair; dsimp only; split <;> simp

@[simp] theorem State.impair_free (s : State) (r : RefId) :
    (s.impair r).free = s.free := by
  unfold State.impair; dsimp only; split <;> simp

@[simp] theorem State.impair_listen (s : State) (r : RefId) :
    (s.impair r).listen = s.listen := by
  unfold State.impair; dsimp only; split <;> simp

@[simp] theorem State.impair_maint (s : State) (r : RefId) :
    (s.impair r).maint = s.maint := by
  unfold State.impair; dsimp only; split <;> simp

@[simp] theorem State.impair_out (s : State) (r : RefId) :
    (s.impair r).out = s.out := by
  unfold State.impair; dsimp only; split <;> simp

@[simp] theorem State.impair_pending (s : State) (r : RefId) :
    (s.impair r).pending = s.pending := by
  unfold State.impair; dsimp only; split <;> simp

@[simp] theorem State.impair_inputs (s : State) (r : RefId) :
    (s.impair r).inputs = s.inputs := by
  unfold State.impair; dsimp only; split <;> simp

@[simp] theorem State.impair_railDue (s : State) (r : RefId) :
    (s.impair r).railDue = s.railDue := by
  unfold State.impair; dsimp only; split <;> simp

@[simp] theorem State.impair_choiceSeq (s : State) (r : RefId) :
    (s.impair r).choiceSeq = s.choiceSeq := by
  unfold State.impair; dsimp only; split <;> simp

/-! State.judgeInterval -/

@[simp] theorem State.judgeInterval_pins (s : State) (r : RefId) (i : Interval) :
    (s.judgeInterval r i).pins = s.pins := by
  unfold State.judgeInterval; dsimp only; (repeat' split) <;> simp

@[simp] theorem State.judgeInterval_straps (s : State) (r : RefId) (i : Interval) :
    (s.judgeInterval r i).straps = s.straps := by
  unfold State.judgeInterval; dsimp only; (repeat' split) <;> simp

@[simp] theorem State.judgeInterval_tribs (s : State) (r : RefId) (i : Interval) :
    (s.judgeInterval r i).tribs = s.tribs := by
  unfold State.judgeInterval; dsimp only; (repeat' split) <;> simp

@[simp] theorem State.judgeInterval_free (s : State) (r : RefId) (i : Interval) :
    (s.judgeInterval r i).free = s.free := by
  unfold State.judgeInterval; dsimp only; (repeat' split) <;> simp

@[simp] theorem State.judgeInterval_listen (s : State) (r : RefId) (i : Interval) :
    (s.judgeInterval r i).listen = s.listen := by
  unfold State.judgeInterval; dsimp only; (repeat' split) <;> simp

@[simp] theorem State.judgeInterval_maint (s : State) (r : RefId) (i : Interval) :
    (s.judgeInterval r i).maint = s.maint := by
  unfold State.judgeInterval; dsimp only; (repeat' split) <;> simp

@[simp] theorem State.judgeInterval_out (s : State) (r : RefId) (i : Interval) :
    (s.judgeInterval r i).out = s.out := by
  unfold State.judgeInterval; dsimp only; (repeat' split) <;> simp

@[simp] theorem State.judgeInterval_pending (s : State) (r : RefId) (i : Interval) :
    (s.judgeInterval r i).pending = s.pending := by
  unfold State.judgeInterval; dsimp only; (repeat' split) <;> simp

@[simp] theorem State.judgeInterval_inputs (s : State) (r : RefId) (i : Interval) :
    (s.judgeInterval r i).inputs = s.inputs := by
  unfold State.judgeInterval; dsimp only; (repeat' split) <;> simp

@[simp] theorem State.judgeInterval_railDue (s : State) (r : RefId) (i : Interval) :
    (s.judgeInterval r i).railDue = s.railDue := by
  unfold State.judgeInterval; dsimp only; (repeat' split) <;> simp

@[simp] theorem State.judgeInterval_choiceSeq (s : State) (r : RefId) (i : Interval) :
    (s.judgeInterval r i).choiceSeq = s.choiceSeq := by
  unfold State.judgeInterval; dsimp only; (repeat' split) <;> simp

/-! State.takeAcceptedEdge -/

@[simp] theorem State.takeAcceptedEdge_pins (s : State) (r : RefId) (n : Nat) :
    (s.takeAcceptedEdge r n).pins = s.pins := by
  simp [State.takeAcceptedEdge]

@[simp] theorem State.takeAcceptedEdge_straps (s : State) (r : RefId) (n : Nat) :
    (s.takeAcceptedEdge r n).straps = s.straps := by
  simp [State.takeAcceptedEdge]

@[simp] theorem State.takeAcceptedEdge_tribs (s : State) (r : RefId) (n : Nat) :
    (s.takeAcceptedEdge r n).tribs = s.tribs := by
  simp [State.takeAcceptedEdge]

@[simp] theorem State.takeAcceptedEdge_free (s : State) (r : RefId) (n : Nat) :
    (s.takeAcceptedEdge r n).free = s.free := by
  simp [State.takeAcceptedEdge]

@[simp] theorem State.takeAcceptedEdge_listen (s : State) (r : RefId) (n : Nat) :
    (s.takeAcceptedEdge r n).listen = s.listen := by
  simp [State.takeAcceptedEdge]

@[simp] theorem State.takeAcceptedEdge_maint (s : State) (r : RefId) (n : Nat) :
    (s.takeAcceptedEdge r n).maint = s.maint := by
  simp [State.takeAcceptedEdge]

@[simp] theorem State.takeAcceptedEdge_out (s : State) (r : RefId) (n : Nat) :
    (s.takeAcceptedEdge r n).out = s.out := by
  simp [State.takeAcceptedEdge]

@[simp] theorem State.takeAcceptedEdge_pending (s : State) (r : RefId) (n : Nat) :
    (s.takeAcceptedEdge r n).pending = s.pending := by
  simp [State.takeAcceptedEdge]

@[simp] theorem State.takeAcceptedEdge_inputs (s : State) (r : RefId) (n : Nat) :
    (s.takeAcceptedEdge r n).inputs = s.inputs := by
  simp [State.takeAcceptedEdge]

@[simp] theorem State.takeAcceptedEdge_railDue (s : State) (r : RefId) (n : Nat) :
    (s.takeAcceptedEdge r n).railDue = s.railDue := by
  simp [State.takeAcceptedEdge]

@[simp] theorem State.takeAcceptedEdge_choiceSeq (s : State) (r : RefId) (n : Nat) :
    (s.takeAcceptedEdge r n).choiceSeq = s.choiceSeq := by
  simp [State.takeAcceptedEdge]

/-! State.takeMissingEdge -/

@[simp] theorem State.takeMissingEdge_pins (s : State) (r : RefId) :
    (s.takeMissingEdge r).pins = s.pins := by
  unfold State.takeMissingEdge; dsimp only; split <;> simp

@[simp] theorem State.takeMissingEdge_straps (s : State) (r : RefId) :
    (s.takeMissingEdge r).straps = s.straps := by
  unfold State.takeMissingEdge; dsimp only; split <;> simp

@[simp] theorem State.takeMissingEdge_tribs (s : State) (r : RefId) :
    (s.takeMissingEdge r).tribs = s.tribs := by
  unfold State.takeMissingEdge; dsimp only; split <;> simp

@[simp] theorem State.takeMissingEdge_free (s : State) (r : RefId) :
    (s.takeMissingEdge r).free = s.free := by
  unfold State.takeMissingEdge; dsimp only; split <;> simp

@[simp] theorem State.takeMissingEdge_listen (s : State) (r : RefId) :
    (s.takeMissingEdge r).listen = s.listen := by
  unfold State.takeMissingEdge; dsimp only; split <;> simp

@[simp] theorem State.takeMissingEdge_maint (s : State) (r : RefId) :
    (s.takeMissingEdge r).maint = s.maint := by
  unfold State.takeMissingEdge; dsimp only; split <;> simp

@[simp] theorem State.takeMissingEdge_out (s : State) (r : RefId) :
    (s.takeMissingEdge r).out = s.out := by
  unfold State.takeMissingEdge; dsimp only; split <;> simp

@[simp] theorem State.takeMissingEdge_pending (s : State) (r : RefId) :
    (s.takeMissingEdge r).pending = s.pending := by
  unfold State.takeMissingEdge; dsimp only; split <;> simp

@[simp] theorem State.takeMissingEdge_inputs (s : State) (r : RefId) :
    (s.takeMissingEdge r).inputs = s.inputs := by
  unfold State.takeMissingEdge; dsimp only; split <;> simp

@[simp] theorem State.takeMissingEdge_railDue (s : State) (r : RefId) :
    (s.takeMissingEdge r).railDue = s.railDue := by
  unfold State.takeMissingEdge; dsimp only; split <;> simp

@[simp] theorem State.takeMissingEdge_choiceSeq (s : State) (r : RefId) :
    (s.takeMissingEdge r).choiceSeq = s.choiceSeq := by
  unfold State.takeMissingEdge; dsimp only; split <;> simp

end Sys2Proof.Machine
end

