-- ==== Sys2Proof/Laws/Readout.lean ====
section
/-! SUPPORT. What readout does at a boundary to each tributary, as one function of that tributary alone: the
sixteen decisions do not depend on one another (R47). -/

namespace Sys2Proof.Machine

/-- What the close of a repeat slip leaves of a record, where one was in progress (R52). -/
def Trib.closedRecord (x : Trib) : Record :=
  if x.storeState = .refill then x.record.repeatClose else x.record

/-- The frame that a transmitting cell, or its absence, sends with an office index (R56, R57). -/
def sentFrame (index : BitVec 3) : Option Cell → BitVec 256
  | none => fillFrame index
  | some c => cellFrame index c

/-- A tributary after one decision (R48 to R52). -/
def Trib.afterAction (x : Trib) (index : BitVec 3) (stamp : Stamp) (shared : Nat) : ReadoutAction → Trib
  | .stayFill => { x with outFrame := fillFrame index }
  | .dequeue =>
    match x.store.queue with
    | [] =>
      { x with
        storeState := .normal
        repeatRun := 0
        record := x.closedRecord
        outFrame := sentFrame index x.store.transmitting }
    | c :: rest =>
      { x with
        store := { x.store with transmitting := some c, queue := rest }
        storeState := .normal
        repeatRun := 0
        record := x.closedRecord
        outFrame := cellFrame index c }
  | .goIdle =>
    { x with
      store := { x.store with transmitting := none }
      storeState := .idle
      repeatRun := 0
      record := x.closedRecord
      outFrame := fillFrame index }
  | .startRepeat =>
    { x with
      storeState := .refill
      repeatRun := 1
      record := x.record.repeatStart stamp shared
      outFrame := sentFrame index x.store.transmitting }
  | .continueRepeat =>
    { x with
      storeState := .refill
      repeatRun := satSucc 255 x.repeatRun
      record := x.record.repeatContinue (satSucc 255 x.repeatRun)
      outFrame := sentFrame index x.store.transmitting }

/-- A tributary after a boundary's readout (R47, R55, R57). -/
def Trib.atBoundary (x : Trib) (enabled : Bool) (centre : Nat) (index : BitVec 3) (stamp : Stamp)
    (shared : Nat) : Trib :=
  if enabled then
    let y := x.afterAction index stamp shared
      (readoutAction x.storeState (x.rx.align == .aligned) x.store.queue.length centre)
    { y with record := y.record.offer stamp.frame y.store.queue.length }
  else { x with outFrame := fillFrame index }

/-- One decision writes the tributary it is made for, and no other. -/
theorem State.applyReadout_trib (s : State) (t v : TribId) (n : Nat) (a : ReadoutAction) :
    (s.applyReadout t n a).trib v =
      if v = t then (s.trib t).afterAction s.ftu.officeIndex s.stamp n a else s.trib v := by
  by_cases h : v = t
  · subst h
    cases a with
    | stayFill => simp [State.applyReadout, State.sendFill, State.setOutFrame, Trib.afterAction]
    | dequeue =>
      cases hq : (s.trib v).store.queue with
      | nil =>
        by_cases hr : (s.trib v).storeState = .refill <;>
          simp [State.applyReadout, State.closeRepeat, hr, State.dequeue, hq, State.setStoreState,
            State.sendCell, State.setOutFrame, State.transmitFrame, State.modRecord,
            Trib.afterAction, Trib.closedRecord, sentFrame] <;>
          cases (s.trib v).store.transmitting <;> rfl
      | cons c rest =>
        by_cases hr : (s.trib v).storeState = .refill <;>
          cases ht : (s.trib v).store.transmitting <;>
          simp [State.applyReadout, State.closeRepeat, hr, State.dequeue, hq, State.setStoreState,
            State.sendCell, State.setOutFrame, State.transmitFrame, State.modRecord, State.modStore,
            State.releaseTransmitting, ht, Trib.afterAction, Trib.closedRecord]
    | goIdle =>
      by_cases hr : (s.trib v).storeState = .refill <;>
        cases ht : (s.trib v).store.transmitting <;>
        simp [State.applyReadout, State.closeRepeat, hr, State.setStoreState, State.sendFill,
          State.setOutFrame, State.modRecord, State.modStore, State.releaseTransmitting, ht,
          Trib.afterAction, Trib.closedRecord] <;>
        rw [← ht]
    | startRepeat =>
      simp [State.applyReadout, State.setStoreState, State.sendCell, State.setOutFrame,
        State.transmitFrame, State.modRecord, Trib.afterAction, sentFrame] <;>
        rfl
    | continueRepeat =>
      simp [State.applyReadout, State.setStoreState, State.sendCell, State.setOutFrame,
        State.transmitFrame, State.modRecord, Trib.afterAction, sentFrame] <;>
        cases (s.trib v).store.transmitting <;> rfl
  · simp only [h, if_false]
    cases a <;>
      simp [State.applyReadout, State.sendFill, State.sendCell, State.trib_setOutFrame,
        State.trib_setStoreState, State.trib_modRecord, State.closeRepeat, State.dequeue,
        State.releaseTransmitting, h] <;>
      (repeat' split) <;> simp [State.trib_modStore, State.trib_modRecord, h]

/-- Readout of one tributary at a boundary writes that tributary, and no other. -/
theorem State.readoutTrib_trib (s : State) (t v : TribId) (n : Nat) :
    (s.readoutTrib n t).trib v =
      if v = t then
        (s.trib t).atBoundary (s.enabled t) s.centre s.ftu.officeIndex s.stamp n
      else s.trib v := by
  unfold State.readoutTrib
  by_cases he : s.enabled t = true
  · simp only [he, if_true, State.offer, State.trib_modRecord, State.applyReadout_trib,
      State.readoutDecision]
    by_cases h : v = t
    · subst h
      simp [Trib.atBoundary, State.stamp]
    · simp [h]
  · simp only [Bool.not_eq_true] at he
    by_cases h : v = t
    · subst h; simp [he, State.sendFill, State.setOutFrame, Trib.atBoundary]
    · simp [he, State.sendFill, State.setOutFrame, h]

/-- The readings that readout makes besides the tributary itself are kept by readout. -/
theorem State.readoutTrib_readings (s : State) (t v : TribId) (n : Nat) :
    (s.readoutTrib n t).enabled v = s.enabled v ∧ (s.readoutTrib n t).centre = s.centre ∧
      (s.readoutTrib n t).stamp = s.stamp := by
  simp [State.enabled, State.centre, State.stamp]

/-- The fold over a list without repeats decides each tributary of the list once. -/
theorem State.readoutFold_trib (n : Nat) (l : List TribId) (hl : l.Nodup) (s : State) (v : TribId) :
    (l.foldl (fun s t => s.readoutTrib n t) s).trib v =
      if v ∈ l then
        (s.trib v).atBoundary (s.enabled v) s.centre s.ftu.officeIndex s.stamp n
      else s.trib v := by
  induction l generalizing s with
  | nil => simp
  | cons t l ih =>
    obtain ⟨ht, hl⟩ := List.nodup_cons.mp hl
    obtain ⟨h1, h2, h3⟩ := s.readoutTrib_readings t v n
    simp only [List.foldl_cons, ih hl, State.readoutTrib_trib, h1, h2, h3, State.readoutTrib_ftu]
    by_cases hv : v = t
    · subst hv; simp [ht]
    · simp [hv]

/-- The boundary's readout, tributary by tributary (R47). -/
theorem State.readoutBoundary_trib (s : State) (v : TribId) :
    s.readoutBoundary.trib v =
      (s.trib v).atBoundary (s.enabled v) s.centre s.ftu.officeIndex s.stamp s.sharedFree := by
  have hm : v ∈ allTribs := by revert v; decide
  simp [State.readoutBoundary, State.readoutFold_trib _ _ (show allTribs.Nodup by decide), hm]

/-! The SLIP flag -/

/-- One decision raises SLIP where it starts a repeat slip, and no other flag (R50). -/
theorem State.applyReadout_flags (s : State) (t : TribId) (n : Nat) (a : ReadoutAction) :
    (s.applyReadout t n a).flags = if a = .startRepeat then s.flags.raise .slip else s.flags := by
  cases a <;>
    simp [State.applyReadout, State.closeRepeat, State.dequeue, State.releaseTransmitting, State.sendCell,
      State.sendFill, State.raise] <;>
    (repeat' split) <;> simp

/-- A repeat slip starts in NORMAL with an aligned receiver and an empty queue (R49, R50). -/
theorem readoutAction_startRepeat (st : StoreState) (aligned : Bool) (len centre : Nat) :
    readoutAction st aligned len centre = .startRepeat ↔ st = .normal ∧ aligned = true ∧ len = 0 := by
  unfold readoutAction
  cases st <;> dsimp only <;> (repeat' split) <;> simp_all <;> omega

/-- A tributary starts a repeat slip at a boundary. -/
def State.StartsRepeat (s : State) (t : TribId) : Prop :=
  s.enabled t = true ∧ (s.trib t).rx.align = .aligned ∧ (s.trib t).storeState = .normal ∧
    (s.trib t).store.queue = []

/-- Readout of one tributary raises SLIP where it starts a repeat slip. -/
theorem State.readoutTrib_flags (s : State) (t : TribId) (n : Nat) :
    (s.StartsRepeat t → (s.readoutTrib n t).flags = s.flags.raise .slip) ∧
    (¬ s.StartsRepeat t → (s.readoutTrib n t).flags = s.flags) := by
  have hd : s.StartsRepeat t ↔ s.enabled t = true ∧ s.readoutDecision t = .startRepeat := by
    simp only [State.StartsRepeat, State.readoutDecision, readoutAction_startRepeat, beq_iff_eq,
      List.length_eq_zero_iff]
    constructor <;> (rintro ⟨a, b, c, d⟩; exact ⟨a, c, b, d⟩)
  rw [hd]
  unfold State.readoutTrib
  cases s.enabled t <;> by_cases h : s.readoutDecision t = .startRepeat <;> simp [State.applyReadout_flags, h]

/-- The fold raises SLIP where some tributary of the list starts a repeat slip. -/
theorem State.readoutFold_flags (n : Nat) (l : List TribId) (hl : l.Nodup) (s : State) :
    ((∃ t ∈ l, s.StartsRepeat t) →
      (l.foldl (fun s t => s.readoutTrib n t) s).flags = s.flags.raise .slip) ∧
    ((¬ ∃ t ∈ l, s.StartsRepeat t) → (l.foldl (fun s t => s.readoutTrib n t) s).flags = s.flags) := by
  induction l generalizing s with
  | nil => simp
  | cons t l ih =>
    obtain ⟨ht, hl⟩ := List.nodup_cons.mp hl
    have hs : ∀ v ∈ l, (s.readoutTrib n t).StartsRepeat v ↔ s.StartsRepeat v := by
      intro v hv
      have : v ≠ t := fun h => ht (h ▸ hv)
      simp only [State.StartsRepeat, (s.readoutTrib_readings t v n).1, State.readoutTrib_trib, if_neg this]
    have he : (∃ v ∈ l, (s.readoutTrib n t).StartsRepeat v) ↔ ∃ v ∈ l, s.StartsRepeat v :=
      exists_congr fun v => and_congr_right (hs v)
    obtain ⟨h1, h2⟩ := ih hl (s.readoutTrib n t)
    obtain ⟨g1, g2⟩ := s.readoutTrib_flags t n
    rw [he] at h1 h2
    have hr : ∀ f : Flags, (f.raise .slip).raise .slip = f.raise .slip := fun _ => rfl
    simp only [List.foldl_cons, List.mem_cons, exists_eq_or_imp]
    by_cases hl : ∃ v ∈ l, s.StartsRepeat v <;> by_cases ht : s.StartsRepeat t <;>
      simp only [hl, ht, or_true, or_false, true_implies, not_true, not_false_eq_true, false_implies,
        and_true, true_and]
    · rw [h1 hl, g1 ht, hr]
    · rw [h1 hl, g2 ht]
    · rw [h2 hl, g1 ht]
    · rw [h2 hl, g2 ht]

/-- The boundary's readout raises SLIP where some tributary starts a repeat slip (R47, R50). -/
theorem State.readoutBoundary_flags (s : State) :
    ((∃ t, s.StartsRepeat t) → s.readoutBoundary.flags = s.flags.raise .slip) ∧
    ((¬ ∃ t, s.StartsRepeat t) → s.readoutBoundary.flags = s.flags) := by
  have hm : ∀ t, t ∈ allTribs := by decide
  simpa [State.readoutBoundary, hm] using
    State.readoutFold_flags s.sharedFree allTribs (by decide) s

end Sys2Proof.Machine
end

