-- ==== Sys2Proof/Laws/Boundary.lean ====
section
/-! SUPPORT. The boundary taken apart: whatever order Config chooses, the station's blocks (FTU, selector, mode
machine, rail, LISTEN procedure) and the tributaries end as if the other blocks had not been there. -/

namespace Sys2Proof.Machine

/-- Two states show the station's blocks the same: what a boundary's passage and rail work read, and what
they write. -/
structure State.SameStation (a b : State) : Prop where
  pins : a.pins = b.pins
  straps : a.straps = b.straps
  ftu : a.ftu = b.ftu
  selector : a.selector = b.selector
  modes : a.modes = b.modes
  rail : a.rail = b.rail
  listen : a.listen = b.listen
  stateA : a.monA.state = b.monA.state
  stateB : a.monB.state = b.monB.state

theorem State.SameStation.refl (a : State) : a.SameStation a := ⟨rfl, rfl, rfl, rfl, rfl, rfl, rfl, rfl, rfl⟩

theorem State.SameStation.symm {a b : State} (h : a.SameStation b) : b.SameStation a :=
  ⟨h.1.symm, h.2.symm, h.3.symm, h.4.symm, h.5.symm, h.6.symm, h.7.symm, h.8.symm, h.9.symm⟩

theorem State.SameStation.trans {a b c : State} (h : a.SameStation b) (g : b.SameStation c) :
    a.SameStation c :=
  ⟨h.1.trans g.1, h.2.trans g.2, h.3.trans g.3, h.4.trans g.4, h.5.trans g.5, h.6.trans g.6, h.7.trans g.7,
    h.8.trans g.8, h.9.trans g.9⟩

section
variable {a b : State} (h : a.SameStation b)
include h

theorem State.SameStation.qualified (r : RefId) : a.qualified r = b.qualified r := by
  cases r <;> simp [State.qualified, State.monitor, h.stateA, h.stateB]

theorem State.SameStation.choice : a.choice = b.choice := by
  simp [State.choice, h.qualified, h.straps]

theorem State.SameStation.regrade : a.regrade.SameStation b.regrade := by
  refine ⟨h.pins, h.straps, h.ftu, h.selector, ?_, h.rail, h.listen, h.stateA, h.stateB⟩
  simp [State.regrade, State.selectedClass, h.modes, h.ftu, h.selector, h.straps]

theorem State.SameStation.changeMode (m : Mode) : (a.changeMode m).SameStation (b.changeMode m) := by
  unfold State.changeMode
  exact (State.SameStation.regrade ⟨h.pins, h.straps, by simp [h.ftu], h.selector, by simp [h.modes],
    by simp [h.rail], h.listen, h.stateA, h.stateB⟩)

theorem State.SameStation.firstSelection (r : RefId) :
    (a.firstSelection r).SameStation (b.firstSelection r) := by
  have g : State.SameStation { a with selector := a.selector.select r }
      { b with selector := b.selector.select r } :=
    ⟨h.pins, h.straps, h.ftu, by simp [h.selector], h.modes, h.rail, h.listen, h.stateA, h.stateB⟩
  exact g.changeMode .anchor

theorem State.SameStation.acquire : a.acquire.SameStation b.acquire :=
  ⟨h.pins, h.straps, by simp [State.acquire, h.ftu], h.selector, h.modes, h.rail, h.listen, h.stateA, h.stateB⟩

theorem State.SameStation.joined : a.joined = b.joined := by simp [State.joined, h.modes]

theorem State.SameStation.takeWithdrawal : a.takeWithdrawal.SameStation b.takeWithdrawal := by
  unfold State.takeWithdrawal
  rw [← h.joined]
  cases a.joined with
  | false =>
    exact ⟨h.pins, h.straps, h.ftu, h.selector, h.modes, h.rail, by simp [h.listen], h.stateA, h.stateB⟩
  | true =>
    have g := h.changeMode .listen
    simp only [if_true]
    exact ⟨g.pins, g.straps, by simp only [State.leaveShelf, g.ftu],
      by simp only [State.leaveShelf, g.selector], g.modes, by simp only [State.leaveShelf, g.rail],
      by simp only [State.leaveShelf, g.listen], g.stateA, g.stateB⟩

theorem State.SameStation.takeJoin : a.takeJoin.SameStation b.takeJoin := by
  unfold State.takeJoin
  have g := h.acquire
  dsimp only
  rw [← g.choice]
  cases a.acquire.choice with
  | none =>
    have k := g.changeMode .track
    exact ⟨k.pins, k.straps, k.ftu, k.selector, k.modes, by simp only [k.rail], by simp only [k.listen],
      k.stateA, k.stateB⟩
  | some r =>
    have k := g.firstSelection r
    exact ⟨k.pins, k.straps, k.ftu, k.selector, k.modes, by simp only [k.rail], by simp only [k.listen],
      k.stateA, k.stateB⟩

theorem State.SameStation.passage (ej begins : Bool) :
    (a.passage ej begins).SameStation (b.passage ej begins) := by
  unfold State.passage
  rw [← h.listen]
  split
  · exact h.takeWithdrawal
  split
  · exact h.takeJoin
  split
  · exact ⟨h.pins, h.straps, h.ftu, h.selector, h.modes, by simp [State.startAfresh, h.rail],
      by simp [State.startAfresh, h.listen], h.stateA, h.stateB⟩
  split
  · exact ⟨h.pins, h.straps, h.ftu, h.selector, h.modes, h.rail, by simp [h.listen], h.stateA, h.stateB⟩
  · exact h

theorem State.SameStation.captureOwn (line : RailLine) : (a.captureOwn line).SameStation (b.captureOwn line) := by
  refine ⟨h.pins, h.straps, h.ftu, h.selector, h.modes, ?_, h.listen, h.stateA, h.stateB⟩
  simp [State.captureOwn, State.setCaps, h.rail]

theorem State.SameStation.driveRail : a.driveRail.SameStation b.driveRail := by
  have hd : a.drivesLead = b.drivesLead := by simp [State.drivesLead, h.rail, h.modes]
  unfold State.driveRail
  rw [← hd]
  generalize a.drivesLead = l
  have g (p q : Pulses) (hpq : p = q) : State.SameStation
      { a with rail := { a.rail with drivenGrade := a.modes.grade, drivingLead := l, pulses := p } }
      { b with rail := { b.rail with drivenGrade := b.modes.grade, drivingLead := l, pulses := q } } :=
    ⟨h.pins, h.straps, h.ftu, h.selector, h.modes, by simp only [h.rail, h.modes, hpq], h.listen, h.stateA,
      h.stateB⟩
  cases l with
  | false => exact (g _ _ (by simp [h.rail, h.ftu])).captureOwn .beat
  | true => exact ((g _ _ (by simp [h.rail, h.ftu])).captureOwn .beat).captureOwn .lead

theorem State.SameStation.railBoundary (begins : Bool) :
    (a.railBoundary begins).SameStation (b.railBoundary begins) := by
  unfold State.railBoundary
  rw [← h.joined]
  split
  · exact State.SameStation.driveRail ⟨h.pins, h.straps, h.ftu, h.selector, h.modes, by simp [h.rail], h.listen,
      h.stateA, h.stateB⟩
  · exact ⟨h.pins, h.straps, h.ftu, h.selector, h.modes, by simp [State.openListenWindow, h.rail], h.listen,
      h.stateA, h.stateB⟩

theorem State.SameStation.stationBoundary (ej begins early : Bool) :
    (a.stationBoundary ej begins early).SameStation (b.stationBoundary ej begins early) := by
  unfold State.stationBoundary
  cases early with
  | false => exact (h.passage ej begins).railBoundary begins
  | true => exact h.railBoundary begins

end

/-! The blocks that do not show -/

theorem State.readoutBoundary_same (s : State) : s.readoutBoundary.SameStation s :=
  ⟨by simp, by simp, by simp, by simp, by simp, by simp, by simp, by simp, by simp⟩

theorem State.pageBoundary_same (s : State) : s.pageBoundary.SameStation s :=
  ⟨by simp, by simp, by simp, by simp, by simp, by simp, by simp, by simp, by simp⟩

theorem Monitor.boundary_state (m : Monitor) : m.boundary.state = m.state := by
  unfold Monitor.boundary
  (repeat' split) <;> rfl

theorem State.monitorsBoundary_same (s : State) : s.monitorsBoundary.SameStation s :=
  ⟨by simp, by simp, by simp, by simp, by simp, by simp, by simp,
    by simp [State.monitorsBoundary, Monitor.boundary_state],
    by simp [State.monitorsBoundary, Monitor.boundary_state]⟩

/-- An operation done on a flag keeps what the operation keeps. -/
theorem applyWhen_same {f : State → State} (h : ∀ s, (f s).SameStation s) (b : Bool) (s : State) :
    (applyWhen b f s).SameStation s := by
  cases b
  · exact .refl s
  · exact h s

/-- Whatever order is chosen, the station's blocks end as their own work leaves them (R169). -/
theorem State.blocksAtBoundary_same (s : State) (n : Nat) (ej begins early : Bool) :
    (s.blocksAtBoundary n ej begins early).SameStation (s.stationBoundary ej begins early) := by
  have hm := State.monitorsBoundary_same
  have hr := State.readoutBoundary_same
  have hp := State.pageBoundary_same
  unfold State.blocksAtBoundary
  dsimp only
  refine (applyWhen_same hr _ _).trans ?_
  generalize Config.monitorsBeforePage n = m
  generalize Config.readoutBeforePage n = r
  cases Config.stationBeforePage n with
  | false =>
    refine State.SameStation.stationBoundary ?_ ej begins early
    exact (applyWhen_same hm _ _).trans ((hp _).trans ((applyWhen_same hr _ _).trans (applyWhen_same hm _ _)))
  | true =>
    refine (applyWhen_same hm _ _).trans ((hp _).trans ((applyWhen_same hr _ _).trans ?_))
    exact (applyWhen_same hm _ _).stationBoundary ej begins early

/-- The state that the blocks of a boundary find: the LISTEN window closed, an early withdrawal taken, the
FTU's work done. -/
def State.boundaryStart (s : State) : State :=
  (applyWhen (s.listen.withdrawRequest && Config.withdrawBeforeFtu s.choiceSeq) State.takeWithdrawal
    s.closeListenWindow).ftuBoundary

theorem State.takeBoundary_eq (s : State) (ej : Bool) :
    s.takeBoundary ej =
      { (s.boundaryStart.blocksAtBoundary s.choiceSeq ej s.ftu.joinRequest.isSome
          (s.listen.withdrawRequest && Config.withdrawBeforeFtu s.choiceSeq)).driveOutputs 0 with
        railDue := true
        choiceSeq := s.choiceSeq + 1 } := rfl

/-- The station's blocks at a boundary (R80, R161, R163, R164, R137). -/
theorem State.takeBoundary_same (s : State) (ej : Bool) :
    (s.takeBoundary ej).SameStation
      (s.boundaryStart.stationBoundary ej s.ftu.joinRequest.isSome
        (s.listen.withdrawRequest && Config.withdrawBeforeFtu s.choiceSeq)) := by
  rw [State.takeBoundary_eq]
  have h := State.blocksAtBoundary_same s.boundaryStart s.choiceSeq ej s.ftu.joinRequest.isSome
    (s.listen.withdrawRequest && Config.withdrawBeforeFtu s.choiceSeq)
  generalize State.blocksAtBoundary _ _ _ _ _ = x at h ⊢
  refine State.SameStation.trans (b := x) ?_ h
  constructor <;> rfl

/-! The tributaries and the clock -/

/-- What readout reads of the FTU at a boundary. -/
def Ftu.clock (f : Ftu) : BitVec 3 × Nat × BitVec 32 := (f.officeIndex, f.frameInSecond, f.seconds)

theorem State.changeMode_clock (s : State) (m : Mode) : (s.changeMode m).ftu.clock = s.ftu.clock := rfl

theorem State.passage_clock (s : State) (ej begins : Bool) : (s.passage ej begins).ftu.clock = s.ftu.clock := by
  unfold State.passage
  (repeat' split)
  · unfold State.takeWithdrawal
    dsimp only
    split <;> rfl
  · unfold State.takeJoin
    dsimp only
    split <;> rfl
  all_goals rfl

theorem State.stationBoundary_clock (s : State) (ej begins early : Bool) :
    (s.stationBoundary ej begins early).ftu.clock = s.ftu.clock := by
  unfold State.stationBoundary
  rw [State.railBoundary_ftu]
  split
  · rfl
  · exact s.passage_clock ej begins

theorem applyWhen_clock {f : State → State} (h : ∀ s, (f s).ftu.clock = s.ftu.clock) (b : Bool) (s : State) :
    (applyWhen b f s).ftu.clock = s.ftu.clock := by
  cases b
  · rfl
  · exact h s

/-- Readout sees the same of two states. -/
structure State.SameData (a b : State) : Prop where
  straps : a.straps = b.straps
  tribs : a.tribs = b.tribs
  free : a.free = b.free
  clock : a.ftu.clock = b.ftu.clock

theorem State.SameData.trans {a b c : State} (h : a.SameData b) (g : b.SameData c) : a.SameData c :=
  ⟨h.1.trans g.1, h.2.trans g.2, h.3.trans g.3, h.4.trans g.4⟩

theorem applyWhen_sameData {f : State → State} (h : ∀ s, (f s).SameData s) (b : Bool) (s : State) :
    (applyWhen b f s).SameData s := by
  cases b
  · exact ⟨rfl, rfl, rfl, rfl⟩
  · exact h s

theorem State.SameData.trib {a b : State} (h : a.SameData b) (v : TribId) : a.trib v = b.trib v := by
  simp [State.trib, h.tribs]

theorem State.SameData.enabled {a b : State} (h : a.SameData b) (v : TribId) : a.enabled v = b.enabled v := by
  simp [State.enabled, h.straps]

theorem State.SameData.centre {a b : State} (h : a.SameData b) : a.centre = b.centre := by
  simp [State.centre, h.straps]

theorem State.SameData.stamp {a b : State} (h : a.SameData b) : a.stamp = b.stamp := by
  have := h.clock
  simp only [Ftu.clock, Prod.mk.injEq] at this
  simp [State.stamp, this]

theorem State.SameData.officeIndex {a b : State} (h : a.SameData b) :
    a.ftu.officeIndex = b.ftu.officeIndex := congrArg Prod.fst h.clock

theorem State.SameData.holdings {a b : State} (h : a.SameData b) (v : TribId) : a.holdings v = b.holdings v := by
  simp [State.holdings, h.trib]

theorem State.SameData.sharedFree {a b : State} (h : a.SameData b) : a.sharedFree = b.sharedFree := by
  have he : a.enabled = b.enabled := funext h.enabled
  have hh : a.holdings = b.holdings := funext h.holdings
  simp [State.sharedFree, State.unmet, State.enabledTribs, h.free, he, hh]

theorem State.stationBoundary_data (ej begins early : Bool) (s : State) :
    (s.stationBoundary ej begins early).SameData s := by
  refine ⟨by simp, by simp, by simp, s.stationBoundary_clock ej begins early⟩

theorem State.pageBoundary_data (s : State) : s.pageBoundary.SameData s := ⟨by simp, by simp, by simp, by simp⟩

theorem State.monitorsBoundary_data (s : State) : s.monitorsBoundary.SameData s :=
  ⟨by simp, by simp, by simp, by simp⟩

/-- What readout makes of a tributary depends on nothing but what it reads. -/
theorem State.SameData.readout {a b : State} (h : a.SameData b) (v : TribId) :
    a.readoutBoundary.trib v = b.readoutBoundary.trib v := by
  simp only [State.readoutBoundary_trib, h.trib, h.enabled, h.centre, h.officeIndex, h.stamp, h.sharedFree]

/-- Whatever order is chosen, every tributary ends as readout leaves it (R47). -/
theorem State.blocksAtBoundary_trib (s : State) (n : Nat) (ej begins early : Bool) (v : TribId) :
    (s.blocksAtBoundary n ej begins early).trib v = s.readoutBoundary.trib v := by
  have hm := State.monitorsBoundary_data
  have hs := State.stationBoundary_data ej begins early
  have hp := State.pageBoundary_data
  unfold State.blocksAtBoundary
  dsimp only
  have h1 := applyWhen_sameData hm (Config.monitorsBeforePage n) s
  generalize applyWhen (Config.monitorsBeforePage n) State.monitorsBoundary s = s1 at h1 ⊢
  have h2 := (applyWhen_sameData hs (Config.stationBeforePage n) s1).trans h1
  generalize applyWhen (Config.stationBeforePage n) _ s1 = s2 at h2 ⊢
  cases Config.readoutBeforePage n with
  | false =>
    simp only [applyWhen_false, Bool.not_false, applyWhen_true]
    have h4 := (hp s2).trans h2
    generalize s2.pageBoundary = s4 at h4 ⊢
    have h5 := (applyWhen_sameData hm (!Config.monitorsBeforePage n) s4).trans h4
    generalize applyWhen (!Config.monitorsBeforePage n) _ s4 = s5 at h5 ⊢
    have h6 := (applyWhen_sameData hs (!Config.stationBeforePage n) s5).trans h5
    generalize applyWhen (!Config.stationBeforePage n) _ s5 = s6 at h6 ⊢
    exact h6.readout v
  | true =>
    simp only [applyWhen_false, Bool.not_true, applyWhen_true]
    have h3 := h2.readout v
    generalize s2.readoutBoundary = s3 at h3 ⊢
    have h4 := hp s3
    generalize s3.pageBoundary = s4 at h4 ⊢
    have h5 := (applyWhen_sameData hm (!Config.monitorsBeforePage n) s4).trans h4
    generalize applyWhen (!Config.monitorsBeforePage n) _ s4 = s5 at h5 ⊢
    have h6 := (applyWhen_sameData hs (!Config.stationBeforePage n) s5).trans h5
    generalize applyWhen (!Config.stationBeforePage n) _ s5 = s6 at h6 ⊢
    exact (h6.trib v).trans h3

/-- The cells and the straps before the boundary's own work. -/
theorem State.boundaryStart_flow (s : State) :
    s.boundaryStart.tribs = s.tribs ∧ s.boundaryStart.free = s.free ∧ s.boundaryStart.straps = s.straps := by
  unfold State.boundaryStart
  cases (s.listen.withdrawRequest && Config.withdrawBeforeFtu s.choiceSeq) <;> simp

/-- The clock that the FTU's boundary work leaves depends on the clock and the index request alone. -/
theorem Ftu.boundary_clock (f g : Ftu) (m m' : Mode) (h : f.clock = g.clock)
    (hi : f.indexRequest = g.indexRequest) : (f.boundary m).clock = (g.boundary m').clock := by
  simp only [Ftu.clock, Prod.mk.injEq] at h
  have hx (f : Ftu) : f.restartTicks.fixLength.officeIndex = f.officeIndex ∧
      f.restartTicks.fixLength.frameInSecond = f.frameInSecond ∧
      f.restartTicks.fixLength.seconds = f.seconds ∧
      f.restartTicks.fixLength.indexRequest = f.indexRequest := by
    unfold Ftu.fixLength
    split <;> exact ⟨rfl, rfl, rfl, rfl⟩
  have hs (f : Ftu) (m : Mode) : (f.advanceSecond m).clock =
      (f.officeIndex, if f.frameInSecond + 1 < Config.framesPerSecond then f.frameInSecond + 1 else 0,
        if f.frameInSecond + 1 < Config.framesPerSecond then f.seconds else f.seconds + 1) := by
    unfold Ftu.advanceSecond
    split <;> simp [Ftu.clock, *]
  simp [Ftu.boundary, hs, Ftu.advanceIndex, Ftu.nextIndex, hx, h, hi]

/-- The clock after a boundary is that of the FTU alone, a withdrawal or not (R93, R94). -/
theorem State.boundaryStart_clock (s : State) (m : Mode) : s.boundaryStart.ftu.clock = (s.ftu.boundary m).clock := by
  unfold State.boundaryStart State.ftuBoundary
  dsimp only
  cases (s.listen.withdrawRequest && Config.withdrawBeforeFtu s.choiceSeq) with
  | false => exact Ftu.boundary_clock _ _ _ _ rfl rfl
  | true =>
    simp only [applyWhen_true]
    apply Ftu.boundary_clock
    all_goals
      unfold State.takeWithdrawal
      dsimp only
      split <;> rfl

theorem State.takeBoundary_clock (s : State) (ej : Bool) (m : Mode) :
    (s.takeBoundary ej).ftu.clock = (s.ftu.boundary m).clock := by
  rw [(s.takeBoundary_same ej).ftu, State.stationBoundary_clock, s.boundaryStart_clock m]

/-- Every tributary after a boundary (R47 to R57). -/
theorem State.takeBoundary_trib (s : State) (ej : Bool) (v : TribId) :
    (s.takeBoundary ej).trib v =
      (s.trib v).atBoundary (s.enabled v) s.centre (s.takeBoundary ej).ftu.officeIndex
        (s.takeBoundary ej).stamp s.sharedFree := by
  have hd : (s.takeBoundary ej).ftu.clock = s.boundaryStart.ftu.clock :=
    (s.takeBoundary_clock ej .listen).trans (s.boundaryStart_clock .listen).symm
  have h1 : (s.takeBoundary ej).trib v = s.boundaryStart.readoutBoundary.trib v := by
    rw [State.takeBoundary_eq]
    have h := s.boundaryStart.blocksAtBoundary_trib s.choiceSeq ej s.ftu.joinRequest.isSome
      (s.listen.withdrawRequest && Config.withdrawBeforeFtu s.choiceSeq) v
    generalize State.blocksAtBoundary _ _ _ _ _ = x at h ⊢
    rw [← h]
    unfold State.trib
    dsimp only [State.driveOutputs]
  obtain ⟨ht, hf, hp⟩ := s.boundaryStart_flow
  have hs : s.boundaryStart.SameData
      { s with ftu := { s.ftu with
        officeIndex := (s.takeBoundary ej).ftu.officeIndex
        frameInSecond := (s.takeBoundary ej).ftu.frameInSecond
        seconds := (s.takeBoundary ej).ftu.seconds } } := ⟨hp, ht, hf, hd.symm⟩
  rw [h1, State.readoutBoundary_trib, hs.trib, hs.enabled, hs.centre, hs.officeIndex, hs.stamp, hs.sharedFree]
  rfl

end Sys2Proof.Machine
end

