-- ==== Sys2Proof/Laws/Close.lean ====
section
/-! SUPPORT. The results that a close forms from its window (best grade, rail error, LEAD spread: R142,
R143) are what the close leaves: nothing else that happens there writes them. -/

namespace Sys2Proof.Machine

/-- The three results of a close. -/
structure Rail.SameResults (a b : Rail) : Prop where
  bestGrade : a.bestGrade = b.bestGrade
  railError : a.railError = b.railError
  leadSpread : a.leadSpread = b.leadSpread

theorem Rail.SameResults.refl (a : Rail) : a.SameResults a := ⟨rfl, rfl, rfl⟩

theorem Rail.SameResults.trans {a b c : Rail} (h : a.SameResults b) (g : b.SameResults c) :
    a.SameResults c :=
  ⟨h.1.trans g.1, h.2.trans g.2, h.3.trans g.3⟩

theorem State.acquire_results (s : State) : (s.acquire).rail.SameResults s.rail := .refl _

theorem State.regrade_results (s : State) : (s.regrade).rail.SameResults s.rail := .refl _

theorem State.changeMode_results (s : State) (m : Mode) : (s.changeMode m).rail.SameResults s.rail := ⟨rfl, rfl, rfl⟩

theorem State.followBetter_results (s : State) : (s.followBetter).rail.SameResults s.rail :=
  (State.changeMode_results _ _).trans s.acquire_results

theorem State.raise_results (s : State) (f : FlagId) : (s.raise f).rail.SameResults s.rail := .refl _

theorem State.loseLead_results (s : State) : (s.loseLead).rail.SameResults s.rail := ⟨rfl, rfl, rfl⟩

theorem State.countLeadAbsent_results (s : State) : (s.countLeadAbsent).rail.SameResults s.rail := by
  unfold State.countLeadAbsent
  (repeat' split) <;> exact ⟨rfl, rfl, rfl⟩

theorem State.ftuClose_results (s : State) : (s.ftuClose).rail.SameResults s.rail := by
  unfold State.ftuClose
  dsimp only
  split <;> exact ⟨rfl, rfl, rfl⟩

theorem State.countOffset_results (s : State) : (s.countOffset).rail.SameResults s.rail := by
  unfold State.countOffset
  (repeat' split) <;> exact ⟨rfl, rfl, rfl⟩

theorem State.closeWork_results (s : State) : (s.closeWork).rail.SameResults s.rail :=
  ((State.countOffset_results _).trans (State.ftuClose_results _)).trans s.countLeadAbsent_results

theorem State.closeModes_results (s : State) (b : Bool) : (s.closeModes b).rail.SameResults s.rail := by
  unfold State.closeModes
  split
  · split
    · exact (State.closeWork_results _).trans s.followBetter_results
    · exact (State.followBetter_results _).trans s.closeWork_results
  · exact s.closeWork_results

theorem State.noteMark_results (s : State) : (s.noteMark).rail.SameResults s.rail := by
  unfold State.noteMark
  (repeat' split) <;> exact ⟨rfl, rfl, rfl⟩

theorem State.countBackoff_results (s : State) : (s.countBackoff).rail.SameResults s.rail := ⟨rfl, rfl, rfl⟩

theorem State.relabelBy_results (s : State) (k : Nat) : (s.relabelBy k).rail.SameResults s.rail := by
  unfold State.relabelBy
  dsimp only
  split <;> exact ⟨rfl, rfl, rfl⟩

theorem State.relabelStep_results (s : State) : (s.relabelStep).rail.SameResults s.rail := by
  unfold State.relabelStep
  (repeat' split) <;> first | exact s.countBackoff_results | exact s.relabelBy_results _

theorem State.closeMultiframe_results (s : State) : (s.closeMultiframe).rail.SameResults s.rail := by
  have h : s.rail.countMark.SameResults s.rail := by
    unfold Rail.countMark
    (repeat' split) <;> exact ⟨rfl, rfl, rfl⟩
  have g := State.relabelStep_results ({ s with rail := s.rail.countMark } : State)
  exact ⟨g.1.trans h.1, g.2.trans h.2, g.3.trans h.3⟩

theorem State.marksAtClose_results (s : State) : (s.marksAtClose).rail.SameResults s.rail := by
  unfold State.marksAtClose
  (repeat' split)
  · exact (State.closeMultiframe_results _).trans s.noteMark_results
  · exact s.noteMark_results
  · exact s.countBackoff_results
  · exact .refl _

theorem State.requestJoin_results (s : State) (o : Nat) : (s.requestJoin o).rail.SameResults s.rail := .refl _

theorem State.decideJoin_results (s : State) : (s.decideJoin).rail.SameResults s.rail := by
  unfold State.decideJoin
  (repeat' split) <;> exact .refl _

theorem State.listenAtClose_results (s : State) (h : Option HeldWindow) : (s.listenAtClose h).rail.SameResults s.rail := by
  unfold State.listenAtClose
  (repeat' split) <;> first | exact .refl _ | exact State.decideJoin_results _

theorem State.renewWindows_results (s : State) : (s.renewWindows).rail.SameResults s.rail := ⟨rfl, rfl, rfl⟩

/-- What a close leaves of the results is what it forms (R142, R143, R158). -/
theorem State.takeClose_results (s : State) : s.takeClose.rail.SameResults s.formAtClose.rail := by
  unfold State.takeClose
  dsimp only
  refine (State.renewWindows_results _).trans ((State.regrade_results _).trans ?_)
  refine (State.listenAtClose_results _ _).trans ((State.marksAtClose_results _).trans ?_)
  exact State.closeModes_results _ _

end Sys2Proof.Machine
end

