-- ==== Sys2Proof/Laws/Marks.lean ====
section
/-! SUPPORT. The multiframe marks at a close (R146 to R150): what the rest of the close leaves of all they read,
what they leave, and the small lemmas of the mark set, the mark test and the relabel stamps. -/

namespace Sys2Proof.Machine

/-- The same in all that the marks of a close read or write. -/
structure State.SameMarks (a b : State) : Prop where
  index : a.ftu.officeIndex = b.ftu.officeIndex
  request : a.ftu.indexRequest = b.ftu.indexRequest
  stamp : a.stamp = b.stamp
  straps : a.straps = b.straps
  joined : a.joined = b.joined
  width : a.rail.width = b.rail.width
  caps : a.rail.caps = b.rail.caps
  lead : a.rail.drivingLead = b.rail.drivingLead
  marks : a.rail.markSet = b.rail.markSet
  cand : a.rail.markCand = b.rail.markCand
  run : a.rail.markRun = b.rail.markRun
  backoff : a.rail.backoff = b.rail.backoff
  stamps : a.rail.relabelStamps = b.rail.relabelStamps
  relabels : a.counters.relabels = b.counters.relabels
  flag : a.flags.relabel = b.flags.relabel

theorem State.SameMarks.trans {a b c : State} (h : a.SameMarks b) (g : b.SameMarks c) : a.SameMarks c where
  index := h.index.trans g.index
  request := h.request.trans g.request
  stamp := h.stamp.trans g.stamp
  straps := h.straps.trans g.straps
  joined := h.joined.trans g.joined
  width := h.width.trans g.width
  caps := h.caps.trans g.caps
  lead := h.lead.trans g.lead
  marks := h.marks.trans g.marks
  cand := h.cand.trans g.cand
  run := h.run.trans g.run
  backoff := h.backoff.trans g.backoff
  stamps := h.stamps.trans g.stamps
  relabels := h.relabels.trans g.relabels
  flag := h.flag.trans g.flag

theorem Ftu.close_requests (f : Ftu) (m : Mode) (o : Option Int) :
    (f.close m o).indexRequest = f.indexRequest ∧ (f.close m o).officeIndex = f.officeIndex ∧
      (f.close m o).seconds = f.seconds ∧ (f.close m o).frameInSecond = f.frameInSecond := by
  unfold Ftu.close
  cases o
  · exact ⟨rfl, rfl, rfl, rfl⟩
  · dsimp only
    unfold Ftu.closeMeasured Ftu.countGain
    dsimp only
    (repeat' split) <;> exact ⟨rfl, rfl, rfl, rfl⟩

theorem State.formAtClose_marks (s : State) : s.formAtClose.SameMarks s := by
  unfold State.formAtClose
  (repeat' split) <;> constructor <;> rfl

theorem State.countLeadAbsent_marks (s : State) : s.countLeadAbsent.SameMarks s := by
  unfold State.countLeadAbsent
  (repeat' split) <;> constructor <;> rfl

theorem State.ftuClose_marks (s : State) : s.ftuClose.SameMarks s := by
  have h := s.ftu.close_requests s.modes.mode s.offeredError
  unfold State.ftuClose
  dsimp only
  split <;> constructor <;> first
    | rfl
    | exact h.1
    | exact h.2.1
    | (unfold State.stamp; dsimp only [State.raise]; rw [h.2.2.1, h.2.2.2])

theorem State.countOffset_marks (s : State) : s.countOffset.SameMarks s := by
  unfold State.countOffset
  (repeat' split) <;> constructor <;> rfl

theorem State.closeWork_marks (s : State) : s.closeWork.SameMarks s :=
  (s.countLeadAbsent.ftuClose.countOffset_marks.trans s.countLeadAbsent.ftuClose_marks).trans
    s.countLeadAbsent_marks

theorem State.followBetter_marks (s : State) (h : s.joined = true) : s.followBetter.SameMarks s := by
  constructor <;> first | rfl | exact (show true = s.joined from h.symm)

/-- The work of a close before its marks leaves all that the marks read (R97, R129, R142 to R144). -/
theorem State.closeModes_marks (s : State) (b : Bool) : (s.closeModes b).SameMarks s := by
  unfold State.closeModes
  split
  · rename_i h
    have hj : s.joined = true := by
      simp only [State.holdTest, Bool.and_eq_true, decide_eq_true_eq] at h
      rw [State.joined, h.1.1.1]
      rfl
    split
    · exact (State.closeWork_marks _).trans (s.followBetter_marks hj)
    · exact (State.followBetter_marks _ (s.closeWork_marks.joined.trans hj)).trans s.closeWork_marks
  · exact s.closeWork_marks

/-- What follows the marks at a close leaves rail, counters and RELABEL as they are (R159, R160). -/
theorem State.listenAtClose_marks (s : State) (h : Option HeldWindow) :
    (s.listenAtClose h).rail = s.rail ∧ (s.listenAtClose h).counters = s.counters ∧
      (s.listenAtClose h).flags.relabel = s.flags.relabel := by
  unfold State.listenAtClose State.decideJoin
  (repeat' split) <;> exact ⟨rfl, rfl, rfl⟩

theorem State.marksAtClose_joined (s : State) : s.marksAtClose.joined = s.joined := by
  unfold State.marksAtClose State.noteMark State.closeMultiframe State.relabelStep State.relabelBy
  dsimp only
  (repeat' split) <;> rfl

/-- A mark is seen when BEAT stays low for 80 ticks from the grade start and the window holds them (R146). -/
theorem Captures.markSeen_iff (c : Captures) (last : Int) :
    c.markSeen last = true ↔ ∃ g, c.gradeStart = some g ∧ c.markBroken = false ∧ g + 80 ≤ last := by
  unfold Captures.markSeen
  cases c.gradeStart <;> simp

/-- The members of a mark set with one more index (R146). -/
theorem addMark_mem (marks : List Nat) (k n : Nat) (h : ∀ j ∈ marks, 1 ≤ j ∧ j ≤ 7) (hn : 1 ≤ n ∧ n ≤ 7) :
    k ∈ addMark marks n ↔ k ∈ marks ∨ k = n := by
  unfold addMark markIndices
  simp only [List.mem_filter, List.contains_iff_mem, Bool.or_eq_true, decide_eq_true_eq]
  refine ⟨fun g => g.2.symm, fun g => ⟨?_, g.symm⟩⟩
  have : 1 ≤ k ∧ k ≤ 7 := by
    rcases g with g | g
    · exact h k g
    · omega
  simp only [List.mem_cons, List.not_mem_nil, or_false]
  omega

/-- Up to seven stamps keep their places before a new one (R150). -/
theorem pushStamp_short (stamps : List Stamp) (x : Stamp) (h : stamps.length ≤ 7) :
    pushStamp stamps x = stamps ++ [x] := by
  unfold pushStamp
  have e : (stamps ++ [x]).length - 8 = 0 := by simp; omega
  simp only [e, List.drop_zero]

/-- Of eight stamps the oldest goes (R150). -/
theorem pushStamp_full (a : Stamp) (rest : List Stamp) (x : Stamp) (h : rest.length = 7) :
    pushStamp (a :: rest) x = rest ++ [x] := by
  unfold pushStamp
  simp [h]

end Sys2Proof.Machine
end

