-- ==== Sys2Proof/Laws/Tick.lean ====
section
/-! SUPPORT. What a tick finds: the groups of events survive their arrangement, the reading of the rail lines said
line by line, the events of each group, and what a tick writes (notes/assumptions/2.md, 3.md; R135, R141). -/

namespace Sys2Proof.Machine

/-! The arrangement of the groups -/

theorem insertSlot_flatten_mem (k : Nat) (x : List Instr) (l : List (List Instr)) (c : Instr) :
    c ∈ (insertSlot k x l).flatten ↔ c ∈ x ∨ c ∈ l.flatten := by
  have h := List.take_append_drop (k % (l.length + 1)) l
  have g : c ∈ l.flatten ↔ c ∈ (l.take (k % (l.length + 1))).flatten ∨
      c ∈ (l.drop (k % (l.length + 1))).flatten := by
    conv_lhs => rw [← h]
    simp only [List.flatten_append, List.mem_append]
  simp only [insertSlot, List.flatten_append, List.flatten_cons, List.mem_append, g]
  tauto

/-- An arrangement holds the events of its groups, and no other. -/
theorem arrange_flatten_mem (n : Nat) (l : List (List Instr)) (c : Instr) :
    c ∈ (arrange n l).flatten ↔ c ∈ l.flatten := by
  induction l with
  | nil => simp [arrange]
  | cons x rest ih =>
    cases x with
    | nil => simpa [arrange] using ih
    | cons a as =>
      unfold arrange
      cases h : arrange n rest with
      | nil => rw [h] at ih; simp only [List.flatten_cons, List.mem_append, ← ih]
      | cons y ys =>
        simp only [insertSlot_flatten_mem]
        rw [← h, ih]
        simp only [List.flatten_cons, List.mem_append]

theorem insertSlot_mem (k : Nat) (x : List Instr) (l : List (List Instr)) (y : List Instr) :
    y ∈ insertSlot k x l ↔ y = x ∨ y ∈ l := by
  have g : y ∈ l ↔ y ∈ l.take (k % (l.length + 1)) ∨ y ∈ l.drop (k % (l.length + 1)) := by
    conv_lhs => rw [← List.take_append_drop (k % (l.length + 1)) l]
    exact List.mem_append
  simp only [insertSlot, List.mem_append, List.mem_cons, g]
  tauto

/-- A group that is not empty keeps together. -/
theorem arrange_mem (n : Nat) (l : List (List Instr)) (x : List Instr) (hx : x ≠ []) (h : x ∈ l) :
    x ∈ arrange n l := by
  induction l with
  | nil => simp at h
  | cons y rest ih =>
    rcases List.mem_cons.mp h with g | g <;> clear h
    · subst g
      cases x with
      | nil => exact absurd rfl hx
      | cons a as =>
        unfold arrange
        cases arrange n rest with
        | nil => exact List.mem_singleton.mpr rfl
        | cons z zs => exact (insertSlot_mem _ _ _ _).mpr (.inl rfl)
    · cases y with
      | nil => exact ih g
      | cons a as =>
        unfold arrange
        cases e : arrange n rest with
        | nil => rw [e] at ih; exact absurd (ih g) List.not_mem_nil
        | cons z zs => rw [e] at ih; exact (insertSlot_mem _ _ _ _).mpr (.inr (ih g))

/-- The events of a group stand next to one another in the queue. -/
theorem arrange_group (n : Nat) (l : List (List Instr)) (x : List Instr) (hx : x ≠ []) (h : x ∈ l) :
    ∃ a b, (arrange n l).flatten = a ++ x ++ b := by
  obtain ⟨p, q, e⟩ := List.append_of_mem (arrange_mem n l x hx h)
  exact ⟨p.flatten, q.flatten, by simp [e]⟩

theorem insertSlot_perm (k : Nat) (x : List Instr) (l : List (List Instr)) :
    (insertSlot k x l).flatten.Perm (x ++ l.flatten) := by
  have h : l.flatten = (l.take (k % (l.length + 1))).flatten ++ (l.drop (k % (l.length + 1))).flatten := by
    rw [← List.flatten_append, List.take_append_drop]
  simp only [insertSlot, List.flatten_append, List.flatten_cons]
  rw [h]
  exact List.perm_append_comm_assoc ..

/-- An arrangement holds each event as often as its groups do. -/
theorem arrange_flatten_perm (n : Nat) (l : List (List Instr)) : (arrange n l).flatten.Perm l.flatten := by
  induction l with
  | nil => exact .refl _
  | cons x rest ih =>
    cases x with
    | nil => simpa [arrange] using ih
    | cons a as =>
      unfold arrange
      cases h : arrange n rest with
      | nil => rw [h] at ih; simpa using ih.append_left (a :: as)
      | cons y ys => exact (insertSlot_perm _ _ _).trans ((h ▸ ih).append_left (a :: as))

/-- What a reading f finds in one group alone, it finds in the same order in an arrangement. -/
theorem arrange_filterMap {α : Type} (f : Instr → Option α) (n : Nat) (l : List (List Instr))
    (h : l.Pairwise fun x y => x.filterMap f = [] ∨ y.filterMap f = []) :
    (arrange n l).flatten.filterMap f = l.flatten.filterMap f := by
  induction l with
  | nil => rfl
  | cons x rest ih =>
    obtain ⟨hx, hr⟩ := List.pairwise_cons.mp h
    have ih := ih hr
    cases x with
    | nil => simpa [arrange] using ih
    | cons a as =>
      unfold arrange
      cases e : arrange n rest with
      | nil =>
        rw [e] at ih
        simp only [List.flatten_cons, List.filterMap_append, ← ih, List.flatten_nil, List.filterMap_nil]
      | cons y ys =>
        have hz : (y :: ys).flatten.filterMap f = rest.flatten.filterMap f := e ▸ ih
        dsimp only
        generalize y :: ys = z at hz ⊢
        unfold insertSlot
        dsimp only
        generalize Config.slotPlace n rest.length % (z.length + 1) = j
        simp only [List.flatten_append, List.flatten_cons, List.filterMap_append]
        have hc : z.flatten.filterMap f =
            (z.take j).flatten.filterMap f ++ (z.drop j).flatten.filterMap f := by
          rw [← List.filterMap_append, ← List.flatten_append, List.take_append_drop]
        by_cases g : (a :: as).filterMap f = []
        · rw [g, List.nil_append, List.nil_append, ← hc, hz]
        · have hn : rest.flatten.filterMap f = [] := by
            rw [List.filterMap_flatten, List.flatten_eq_nil_iff]
            simpa using fun y hy => (hx y hy).resolve_left g
          rw [hz, hn] at hc
          obtain ⟨h1, h2⟩ := List.append_eq_nil_iff.mp hc.symm
          rw [h1, h2, hn, List.nil_append]

/-! Reading the rail -/

/-- The changes that a reading of a line finds (R141). -/
def State.lineChanges (s : State) (line : RailLine) : List Instr := (s.readLine line).2

/-- The captures of a line after a reading (R141). -/
def State.lineRead (s : State) (line : RailLine) : LineCapture :=
  match s.linePosition line s.ftu.tick with
  | none => s.rail.caps.get line
  | some _ =>
    { s.rail.caps.get line with
      low := some (s.lineLow line)
      sawLow := (s.rail.caps.get line).sawLow || s.lineLow line }

@[simp] theorem Captures.put_get (c : Captures) (line : RailLine) : c.put line (c.get line) = c := by
  cases line <;> rfl

theorem State.readLine_state (s : State) (line : RailLine) :
    (s.readLine line).1 = s.setCaps (s.rail.caps.put line (s.lineRead line)) := by
  unfold State.readLine State.lineRead
  cases s.linePosition line s.ftu.tick with
  | none => simp only [Captures.put_get]; rfl
  | some p =>
    dsimp only
    split
    · rfl
    · split <;> rfl

theorem State.lineChanges_eq (s : State) (line : RailLine) :
    s.lineChanges line =
      if (s.linePosition line s.ftu.tick).isSome ∧ (s.rail.caps.get line).low = some (!s.lineLow line) then
        [.railLineCapture line (if s.lineLow line then .fall else .rise) s.ftu.tick]
      else [] := by
  unfold State.lineChanges State.readLine
  cases s.linePosition line s.ftu.tick with
  | none => rfl
  | some p =>
    dsimp only
    cases (s.rail.caps.get line).low with
    | none => simp
    | some b => cases b <;> cases s.lineLow line <;> simp

theorem State.readLine_mem (s : State) (line : RailLine) (c : Instr) :
    c ∈ s.lineChanges line ↔ (s.linePosition line s.ftu.tick).isSome ∧
      (s.rail.caps.get line).low = some (!s.lineLow line) ∧
      c = .railLineCapture line (if s.lineLow line then .fall else .rise) s.ftu.tick := by
  rw [State.lineChanges_eq]
  split
  · rename_i h; simp [h]
  · rename_i h; simp only [List.not_mem_nil, false_iff]; tauto

/-- Reading one line does not touch what the reading of another looks at. -/
theorem State.readLine_other (s : State) (line l : RailLine) (h : l ≠ line) :
    (s.readLine line).1.lineRead l = s.lineRead l ∧
    (s.readLine line).1.lineChanges l = s.lineChanges l := by
  rw [State.readLine_state]
  generalize s.lineRead line = x
  have hp : (s.setCaps (s.rail.caps.put line x)).linePosition l s.ftu.tick = s.linePosition l s.ftu.tick := by
    cases line <;> cases l <;> first | exact absurd rfl h | rfl
  have hg : (s.setCaps (s.rail.caps.put line x)).rail.caps.get l = s.rail.caps.get l := by
    cases line <;> cases l <;> first | exact absurd rfl h | rfl
  have hl : (s.setCaps (s.rail.caps.put line x)).lineLow l = s.lineLow l := rfl
  constructor
  · unfold State.lineRead
    simp only [hg, hl, hp, show (s.setCaps (s.rail.caps.put line x)).ftu = s.ftu from rfl]
  · simp only [State.lineChanges_eq, hg, hl, hp, show (s.setCaps (s.rail.caps.put line x)).ftu = s.ftu from rfl]

/-- Whether a reading of BEAT finds the grade start (R139). -/
def State.startsGrade (s : State) : Bool :=
  s.rail.caps.gradeStart.isNone &&
    (s.rail.caps.beat.firstFall.isSome || s.lineChanges .beat == [.railLineCapture .beat .fall s.ftu.tick])

theorem State.readBeat_eq (s : State) :
    s.readBeat = ((s.readLine .beat).1,
      if s.startsGrade then s.lineChanges .beat ++ [.gradeStart] else s.lineChanges .beat) := rfl

/-- The captures after all three lines are read (R135). -/
theorem State.readRail_state (s : State) :
    s.readRail.1 = s.setCaps
      { s.rail.caps with beat := s.lineRead .beat, lead := s.lineRead .lead, grade := s.lineRead .grade } := by
  have h1 := s.readLine_state .beat
  have h2 := (s.readLine .beat).1.readLine_state .lead
  have h3 := ((s.readLine .beat).1.readLine .lead).1.readLine_state .grade
  have g2 := (s.readLine_other .beat .lead (by decide)).1
  have g3 := (s.readLine_other .beat .grade (by decide)).1
  have g4 := ((s.readLine .beat).1.readLine_other .lead .grade (by decide)).1
  rw [g4, g3] at h3
  rw [g2] at h2
  have e : s.readRail.1 = (((s.readLine .beat).1.readLine .lead).1.readLine .grade).1 := rfl
  rw [e, h3, h2, h1]
  rfl

/-- The changes and the grade start that a reading of the three lines finds (R135, R139, R141). -/
theorem State.readRail_mem (s : State) (c : Instr) :
    c ∈ s.readRail.2 ↔ (∃ line, c ∈ s.lineChanges line) ∨ c = .gradeStart ∧ s.startsGrade = true := by
  have g2 := (s.readLine_other .beat .lead (by decide)).2
  have g3 := (s.readLine_other .beat .grade (by decide)).2
  have g4 := ((s.readLine .beat).1.readLine_other .lead .grade (by decide)).2
  have e : s.readRail.2 =
      (if s.startsGrade then s.lineChanges .beat ++ [.gradeStart] else s.lineChanges .beat) ++
        (s.readLine .beat).1.lineChanges .lead ++
        ((s.readLine .beat).1.readLine .lead).1.lineChanges .grade := rfl
  rw [e, g4, g3, g2]
  have l : (∃ line, c ∈ s.lineChanges line) ↔
      c ∈ s.lineChanges .beat ∨ c ∈ s.lineChanges .lead ∨ c ∈ s.lineChanges .grade :=
    ⟨fun ⟨x, h⟩ => by cases x <;> tauto, fun h => by rcases h with h | h | h <;> exact ⟨_, h⟩⟩
  rw [l]
  cases s.startsGrade <;> simp <;> tauto


/-! The events that a tick finds -/

/-- Every tributary is one of all sixteen. -/
theorem allTribs_mem (t : TribId) : t ∈ allTribs := by revert t; decide

/-- A tributary as a tick leaves it, before the events found there (R4). -/
theorem State.advance_trib (s : State) (p : InPins) (t : TribId) :
    (s.advance p).trib t = if s.enabled t then { s.trib t with rx := (s.trib t).rx.tick } else s.trib t := by
  simp [State.advance, State.trib, State.eachTrib]

/-- The events of a tributary at a tick: a dark entry, and its edges (R3, R4). -/
theorem State.tribSlot_only (s : State) (n : Nat) (i : TickInput) (t : TribId) (c : Instr)
    (h : c ∈ s.tribSlot n i t) :
    c = .darkEntry t ∨ ∃ b, c = .lineClockEdge t b ∨ c = .leaveDark t b ∨ c = .candidate t b ∨
      c = .verifyCheck t b ∨ c = .syncOctetCheck t b ∨ c = .frameCompletion t b := by
  unfold State.tribSlot at h
  dsimp only at h
  split at h
  · simp only [List.mem_cons, List.mem_map] at h
    rcases h with h | ⟨b, -, h⟩
    · exact .inl h
    · exact .inr ⟨b, .inr (.inl h.symm)⟩
  · simp only [List.mem_map] at h
    obtain ⟨b, -, h⟩ := h
    refine .inr ⟨b, ?_⟩
    subst h
    cases s.edgeKind t b <;> simp [edgeCommand]

/-- Every edge of the tick is an event, under one of its names (R3). -/
theorem State.tribSlot_edge (s : State) (n : Nat) (i : TickInput) (t : TribId) (b : Bool)
    (h : (t, b) ∈ i.edges) :
    ∃ c ∈ s.tribSlot n i t, c = .lineClockEdge t b ∨ c = .leaveDark t b ∨ c = .candidate t b ∨
      c = .verifyCheck t b ∨ c = .syncOctetCheck t b ∨ c = .frameCompletion t b := by
  have hb : b ∈ i.bitsOf t := by
    simp only [TickInput.bitsOf, List.mem_map, List.mem_filter]
    exact ⟨(t, b), ⟨h, by simp⟩, rfl⟩
  unfold State.tribSlot
  dsimp only
  split
  · exact ⟨.leaveDark t b, List.mem_cons_of_mem _ (List.mem_map.mpr ⟨b, hb, rfl⟩), by simp⟩
  · refine ⟨_, List.mem_map.mpr ⟨b, hb, rfl⟩, ?_⟩
    cases s.edgeKind t b <;> simp [edgeCommand]

/-- The events of a reference at a tick (R104, R107). -/
theorem State.refSlot_only (s : State) (n : Nat) (r : RefId) (c : Instr) :
    c ∈ s.refSlot n r → c = .missingEdge r ∨ c = .acceptedEdge r (s.ftu.crystal - 7) := by
  unfold State.refSlot
  dsimp only
  (repeat' split) <;> simp <;> tauto

/-- A pulse is accepted when its eighth high tick comes, and rose seven ticks before (R104). -/
theorem State.refSlot_accepted (s : State) (n : Nat) (r : RefId) (k : Nat) :
    .acceptedEdge r k ∈ s.refSlot n r ↔ (s.monitor r).accepts = true ∧ k = s.ftu.crystal - 7 := by
  unfold State.refSlot
  dsimp only
  (repeat' split) <;> simp_all

/-- An activity timer that runs out with no acceptance at the tick is a missing edge (R107). -/
theorem State.refSlot_missing (s : State) (n : Nat) (r : RefId) (h : (s.monitor r).expires = true)
    (h2 : (s.monitor r).accepts = false) :
    .missingEdge r ∈ s.refSlot n r := by
  unfold State.refSlot
  simp [h, h2]

/-- The events of the groups of a tick. -/
theorem State.tickSlots_mem (s1 s : State) (n : Nat) (i : TickInput) (c : Instr) :
    c ∈ (s1.tickSlots s n i).flatten ↔ (∃ t, c ∈ s1.tribSlot n i t) ∨
      (∃ r, c ∈ s1.refSlot n r) ∨ c ∈ s.ejSlot i.pins.ej ∨ c ∈ s1.makSlot := by
  unfold State.tickSlots
  simp only [List.flatten_append, List.mem_append, List.mem_flatten, List.mem_map]
  constructor
  · rintro (⟨l, ⟨t, -, rfl⟩, h⟩ | ⟨l, hl, h⟩)
    · exact .inl ⟨t, h⟩
    · simp only [List.mem_cons, List.not_mem_nil, or_false] at hl
      rcases hl with rfl | rfl | rfl | rfl
      · exact .inr (.inl ⟨_, h⟩)
      · exact .inr (.inl ⟨_, h⟩)
      · exact .inr (.inr (.inl h))
      · exact .inr (.inr (.inr h))
  · rintro (⟨t, h⟩ | ⟨r, h⟩ | h | h)
    · exact .inl ⟨_, ⟨t, allTribs_mem t, rfl⟩, h⟩
    · right; cases r
      · exact ⟨_, by simp, h⟩
      · exact ⟨s1.refSlot n .refB, by simp, h⟩
    · exact .inr ⟨_, by simp, h⟩
    · exact .inr ⟨_, by simp, h⟩

/-- The office bits of a tick (R58, R59). -/
theorem State.bitSlot_mem (s : State) (h : s.ftu.tick < s.ftu.length) (k : Nat) (half : Bool) :
    .officeBit k half ∈ s.bitSlot ↔ s.ftu.tick = 16 * k + (if half then 8 else 0) ∧
      (k ≤ 255 ∨ k = 256 ∧ half = false ∧ s.listen.phase = .joinFrame) := by
  unfold State.bitSlot
  dsimp only
  generalize s.ftu.tick = t at *
  split
  · rename_i g
    simp only [List.mem_singleton, Instr.officeBit.injEq]
    constructor
    · rintro ⟨rfl, rfl⟩
      refine ⟨?_, ?_⟩
      · split <;> rename_i q <;> simp at q <;> omega
      · rcases g.2.2 with g | g
        · left; omega
        · right; simp [g.1, g.2]
    · rintro ⟨q, q2⟩
      cases half <;> simp at q ⊢ <;> omega
  · rename_i g
    simp only [List.not_mem_nil, false_iff]
    rintro ⟨q, q2⟩
    apply g
    refine ⟨?_, h, ?_⟩
    · cases half <;> simp at q <;> omega
    · rcases q2 with q2 | q2
      · left; cases half <;> simp at q <;> omega
      · right; simp [q2] at q; exact ⟨q, q2.2.2⟩

/-- A tick's office bit group holds office bits only. -/
theorem State.bitSlot_only (s : State) (c : Instr) (h : c ∈ s.bitSlot) : ∃ k b, c = .officeBit k b := by
  unfold State.bitSlot at h
  dsimp only at h
  split at h
  · exact ⟨_, _, List.mem_singleton.mp h⟩
  · cases h

/-- A pulse that has reached its end is an event (R137). -/
theorem State.endedPulses_mem (s : State) (c : Instr) :
    c ∈ s.endedPulses ↔ ∃ line, c = .pulseEnd line ∧ ∃ e, s.rail.pulses.get line = some e ∧ e ≤ s.ftu.crystal := by
  unfold State.endedPulses
  simp only [List.mem_map, List.mem_filter]
  constructor
  · rintro ⟨l, ⟨-, h⟩, rfl⟩
    refine ⟨l, rfl, ?_⟩
    cases hh : s.rail.pulses.get l with
    | none => simp [hh] at h
    | some e => simp [hh] at h; exact ⟨e, rfl, h⟩
  · rintro ⟨l, rfl, e, h1, h2⟩
    exact ⟨l, ⟨by cases l <;> simp, by simp [h1, h2]⟩, rfl⟩

/-- Reading the rail finds captures and the grade start only. -/
theorem State.readRail_only (s : State) (c : Instr) (h : c ∈ s.readRail.2) :
    c = .gradeStart ∨ ∃ l ch t, c = .railLineCapture l ch t := by
  rw [State.readRail_mem] at h
  rcases h with ⟨l, h⟩ | ⟨h, -⟩
  · rw [State.readLine_mem] at h
    exact .inr ⟨_, _, _, h.2.2⟩
  · exact .inl h

/-- Reading BEAT finds captures and the grade start only. -/
theorem State.readBeat_only (s : State) (c : Instr) (h : c ∈ s.readBeat.2) :
    c = .gradeStart ∨ ∃ l ch t, c = .railLineCapture l ch t := by
  rw [State.readBeat_eq] at h
  dsimp only at h
  have : c ∈ s.lineChanges .beat → c = .gradeStart ∨ ∃ l ch t, c = .railLineCapture l ch t := fun h => by
    rw [State.readLine_mem] at h
    exact .inr ⟨_, _, _, h.2.2⟩
  split at h
  · simp at h; tauto
  · tauto

/-- EJ's group holds its rising edge only. -/
theorem State.ejSlot_only (s : State) (ej : Bool) (c : Instr) (h : c ∈ s.ejSlot ej) : c = .ejRisingEdge := by
  unfold State.ejSlot at h; split at h <;> simp at h; exact h

/-- MAK's group holds an acknowledgement only. -/
theorem State.makSlot_only (s : State) (c : Instr) (h : c ∈ s.makSlot) : c = .acknowledgement := by
  unfold State.makSlot at h; split at h <;> simp at h; exact h

/-- All the events of a tick without a boundary. -/
theorem State.tickWithin_mem (s1 : State) (n : Nat) (slots : List (List Instr)) (c : Instr) :
    c ∈ (s1.tickWithin n slots).pending ↔ c ∈ s1.endedPulses ∨ c ∈ s1.readRail.2 ∨
      c ∈ slots.flatten ∨ c ∈ s1.bitSlot ∨ (s1.ftu.tick = Config.closeTick ∧ c = .measurementClose) := by
  unfold State.tickWithin
  dsimp only
  split
  · rename_i h
    simp only [List.mem_append, arrange_flatten_mem, List.flatten_append, List.flatten_cons, List.flatten_nil,
      List.append_nil, List.mem_singleton, h, true_and]
    tauto
  · rename_i h
    simp only [List.mem_append, arrange_flatten_mem, List.flatten_append, List.flatten_cons, List.flatten_nil,
      List.append_nil, h, false_and, or_false]
    tauto

/-- All the events of a tick with a boundary. -/
theorem State.tickBoundary_mem (s1 : State) (n : Nat) (ej : Bool) (slots : List (List Instr)) (c : Instr) :
    c ∈ (s1.tickBoundary n ej slots).pending ↔ c ∈ s1.endedPulses ∨
      (s1.fallsEarly n = true ∧ c ∈ s1.readBeat.2) ∨ c ∈ slots.flatten ∨ c = .officeBoundary ej ∨ c = .gradeStart := by
  unfold State.tickBoundary
  dsimp only
  cases s1.fallsEarly n <;> cases Config.fallApart n <;>
    simp only [List.mem_append, arrange_flatten_mem, List.flatten_append, List.flatten_cons, List.flatten_nil,
      List.append_nil, List.mem_cons, List.not_mem_nil, if_true, if_false, Bool.false_eq_true, false_and, true_and,
      or_false, false_or] <;> tauto

/-- The events of a tick other than boundary, close, office bits and what the rail gives. -/
theorem State.tickRunning_mem (s : State) (i : TickInput) (c : Instr)
    (h1 : ∀ ej, c ≠ .officeBoundary ej) (h2 : c ≠ .measurementClose) (h3 : c ≠ .gradeStart)
    (h4 : ∀ l ch t, c ≠ .railLineCapture l ch t) (h5 : ∀ k b, c ≠ .officeBit k b) :
    c ∈ (s.tickRunning i).pending ↔ c ∈ (s.advance i.pins).endedPulses ∨
      (∃ t, c ∈ (s.advance i.pins).tribSlot s.choiceSeq i t) ∨
      (∃ r, c ∈ (s.advance i.pins).refSlot s.choiceSeq r) ∨ c ∈ s.ejSlot i.pins.ej ∨
      c ∈ (s.advance i.pins).makSlot := by
  unfold State.tickRunning
  dsimp only
  have hb : ¬ c ∈ (s.advance i.pins).bitSlot := fun h => by
    obtain ⟨k, b, h⟩ := State.bitSlot_only _ _ h
    exact h5 _ _ h
  have hr : ¬ c ∈ (s.advance i.pins).readRail.2 := fun h => by
    rcases State.readRail_only _ _ h with h | ⟨_, _, _, h⟩
    · exact h3 h
    · exact h4 _ _ _ h
  have hr' : ¬ c ∈ (s.advance i.pins).readBeat.2 := fun h => by
    rcases State.readBeat_only _ _ h with h | ⟨_, _, _, h⟩
    · exact h3 h
    · exact h4 _ _ _ h
  split
  · rw [State.tickBoundary_mem, State.tickSlots_mem]
    simp only [hr', h1, h3, and_false, or_false, false_or]
  · rw [State.tickWithin_mem, State.tickSlots_mem]
    simp only [hb, hr, h2, and_false, or_false, false_or]

/-- A tick within a frame writes nothing of the state that the tick has advanced but the captures and the queue. -/
theorem State.tickWithin_state (s : State) (n : Nat) (slots : List (List Instr)) :
    s.tickWithin n slots = { s with
      rail := { s.rail with caps := (s.tickWithin n slots).rail.caps }
      pending := (s.tickWithin n slots).pending } := by
  unfold State.tickWithin
  dsimp only
  rw [State.readRail_state]
  rfl

/-- The same at the tick of a boundary. -/
theorem State.tickBoundary_state (s : State) (n : Nat) (ej : Bool) (slots : List (List Instr)) :
    s.tickBoundary n ej slots = { s with
      rail := { s.rail with caps := (s.tickBoundary n ej slots).rail.caps }
      pending := (s.tickBoundary n ej slots).pending } := by
  unfold State.tickBoundary
  dsimp only
  cases s.fallsEarly n
  · rfl
  · simp only [if_true, State.readBeat_eq, State.readLine_state]
    rfl

/-- What a tick of a station out of reset writes: what advances with the crystal, the captures as the lines are read,
and the queue. -/
theorem State.tickRunning_state (s : State) (i : TickInput) :
    s.tickRunning i = { s.advance i.pins with
      rail := { s.rail with caps := (s.tickRunning i).rail.caps }
      pending := (s.tickRunning i).pending } := by
  unfold State.tickRunning
  dsimp only
  split
  · exact State.tickBoundary_state ..
  · exact State.tickWithin_state ..

end Sys2Proof.Machine
end

