-- ==== Sys2Proof/Tests/Slice0.lean ====
section
/-! SUPPORT. Small tests of single events, the expected values worked out by hand from the rule named, and for
every statement with hypotheses a state that meets them. -/

namespace Sys2Proof.Machine.Test

/-! States to test on -/

/-- Sixteen tributaries, DEP 4 (C 2), REFA of class A, REFB of class B, station 3. -/
def straps : Straps where
  stn := 3
  tct := .sixteen
  dep := .four
  rca := 0b10
  rcb := 0b01
  pg0 := 0
  pg1 := 1
  pg2 := 2
  pg3 := 3

/-- A station out of reset, listening. -/
def station : State := { State.reset with pins := { InPins.reset with rstn := true }, straps := straps }

/-- The same with a receiver of tributary 2 in the record given. -/
def withRx (x : Receiver) : State := station.modRx 2 fun _ => x

/-- A receiver in SEARCH with seven bits: 1, 0, 1, 1, 0, 1, 0. -/
def searching : Receiver :=
  { Receiver.reset with align := .search, window := [true, false, true, true, false, true, false] }

/-- A receiver one bit from a check: 1, 0, 1, 1, 0, 0, 0 are in, so a further bit makes index 0. -/
def verifying (step : VerifyStep) (cand : BitVec 3) : Receiver :=
  { Receiver.reset with
    align := .verify, verifyStep := step, candIndex := cand, countdown := 1, octet := 0b01011000 }

/-- A receiver in ALIGNED at a bit position, with the octet of `verifying`. -/
def aligned (pos : BitVec 8) (expected : BitVec 3) (bad : Nat) : Receiver :=
  { Receiver.reset with
    align := .aligned, bitPos := pos, expected := expected, badRun := bad, octet := 0b01011000
    mLatch := true }

/-- Tributary 2 aligned with a filling cell of zeros and a queue; 96 cells in all. -/
def filling (x : Receiver) (queue : List Cell) : State :=
  ((withRx x).modStore 2 fun y => { y with filling := some 0, queue := queue }).setFree (95 - queue.length)

/-- A cell for a queue. -/
def cell : Cell := { payload := 5, m := false }

/-- A queue of n frames. -/
def frames (n : Nat) : List Cell := List.replicate n cell

/-- Tributary 2 in a store state with a transmitting cell or none. -/
def stored (x : Receiver) (st : StoreState) (run : Nat) (sending : Option Cell) (queue : List Cell) : State :=
  station.setTrib 2 { Trib.reset with
    rx := x
    store := { filling := if x.align = .aligned then some 0 else none, transmitting := sending, queue := queue }
    storeState := st
    repeatRun := run }

/-- A monitor that is QUALIFIED with its last edge at crystal tick 10000. -/
def goodMonitor : Monitor :=
  { Monitor.reset with state := .qualified, lastEdge := some 10000, activity := some 600, qualCount := 80000 }

/-- A monitor one good interval from Q. -/
def nearlyQualified (flap : Bool) : Monitor :=
  { Monitor.reset with
    state := .qualifying, lastEdge := some 10000, activity := some 600, flap := flap
    qualCount := if flap then 2399999 else 79999 }

/-- A station in ANCHOR on REFA, at tick 100 of a frame. -/
def anchored : State :=
  { station with
    ftu := { Ftu.reset with crystal := 14107, frameStart := 14007, tick := 100, gain := .track }
    monA := goodMonitor
    selector := { selected := some .refA, buildOut := 80, buildPending := false, offered := none }
    modes := { mode := .anchor, grade := some 7, offsetRun := 0 }
    rail := { Rail.reset with width := .narrow, drivenGrade := some 7, drivingLead := true } }

/-- A station in TRACK. -/
def tracking : State :=
  { station with
    ftu := { Ftu.reset with crystal := 14107, frameStart := 14007, tick := 100, gain := .track }
    modes := { mode := .track, grade := some 2, offsetRun := 0 }
    rail := { Rail.reset with width := .narrow, drivenGrade := some 2 } }

/-- A station in HOLD. -/
def holding : State :=
  { tracking with modes := { mode := .hold, grade := some 5, offsetRun := 0 } }

/-- A station in the join frame. -/
def joining : State := { station with listen := { Listen.reset with phase := .joinFrame } }

/-- What a command leaves. -/
def after (c : Instr) (s : State) : State :=
  match exec c s with
  | .next u => u
  | .fault _ => State.reset
  | .refused _ => State.reset

/-! WellFormed, and the words of the table -/

/-- Tick 8191 is the last of the longest frame (00 Terms, frame length): 8192 is refused. -/
theorem test_wf_tick : (Instr.railLineCapture .beat .fall 8192).wf = false ∧
    (Instr.railLineCapture .beat .fall 8191).wf = true := by decide

/-- Office bit 256 begins only the gap, and there is no bit 257 (R58, R59). -/
theorem test_wf_bit : (Instr.officeBit 256 true).wf = false ∧ (Instr.officeBit 257 false).wf = false ∧
    (Instr.officeBit 256 false).wf = true ∧ (Instr.officeBit 255 true).wf = true := by decide

/-- The table gives no row any bits, so a word spells nothing and changes nothing. -/
theorem test_no_word (n w : Nat) : decodeTableWord n w = none ∧ station.withFetchWord n w = station := ⟨rfl, rfl⟩

/-! Receivers -/

/-- R7. -/
theorem test_leave_dark : ((after (.leaveDark 2 true) station).trib 2).rx.align = .search ∧
    ((after (.leaveDark 2 true) station).trib 2).rx.darkTimer = some 256 := by decide

/-- R9: 1, 0, 1, 1 and the index 0, 1, 0 make candidate 2; the octet is 0xB5. -/
theorem test_candidate : ((after (.candidate 2 true) (withRx searching)).trib 2).rx.candIndex = 2 ∧
    ((after (.candidate 2 true) (withRx searching)).trib 2).rx.lastSync = 0xB5 := by decide

/-- R10: after candidate 7 the first check wants index 0 (mod 8). -/
theorem test_verify_first :
    ((after (.verifyCheck 2 true) (withRx (verifying .first 7))).trib 2).rx.verifyStep = .second := by
  decide

/-- R11: candidate 6, second check with index 0: ALIGNED, expecting 1, and the store goes to PRIME with a
cell. -/
theorem test_verify_second :
    ((after (.verifyCheck 2 true) (withRx (verifying .second 6))).trib 2).rx.expected = 1 ∧
    ((after (.verifyCheck 2 true) (withRx (verifying .second 6))).trib 2).storeState = .prime ∧
    (after (.verifyCheck 2 true) (withRx (verifying .second 6))).free = 95 := by decide

/-- R13: a good octet ends a bad run of 3. -/
theorem test_sync_good :
    ((after (.syncOctetCheck 2 false) (filling (aligned 7 0 3) [])).trib 2).rx.badRun = 0 ∧
    ((after (.syncOctetCheck 2 false) (filling (aligned 7 0 3) [])).trib 2).rx.mLatch = false := by decide

/-- R14: the fourth bad octet in a row. -/
theorem test_sync_lost :
    ((after (.syncOctetCheck 2 false) (filling (aligned 7 5 3) [])).trib 2).rx.align = .search ∧
    (after (.syncOctetCheck 2 false) (filling (aligned 7 5 3) [])).free = 96 ∧
    (after (.syncOctetCheck 2 false) (filling (aligned 7 5 3) [])).alm = false := by decide

/-- R34: the frame joins the tail with its M bit, and the position returns to 0. -/
theorem test_completion :
    ((after (.frameCompletion 2 true) (filling (aligned 255 0 0) [cell])).trib 2).store.queue =
      [cell, ⟨1, true⟩] ∧
    ((after (.frameCompletion 2 true) (filling (aligned 255 0 0) [cell])).trib 2).rx.bitPos = 0 := by decide

/-- R35: with DEP 4 a full queue loses 4 − 2 + 1 = 3 frames, then takes the new one. -/
theorem test_delete_slip :
    ((after (.frameCompletion 2 true) (filling (aligned 255 0 0) (frames 4))).trib 2).store.queue.length = 2 ∧
    ((after (.frameCompletion 2 true) (filling (aligned 255 0 0) (frames 4))).trib 2).record.deletedFrames = 3 := by
  decide

/-- R12: the bit at position 8 is the first of the payload, the most significant here. -/
theorem test_payload_bit :
    ((after (.lineClockEdge 2 true) (filling (aligned 8 0 0) [])).trib 2).store.filling =
      some (1#248 <<< 247) := by decide

/-- R9: a short window only grows. -/
theorem test_search_bit :
    ((after (.lineClockEdge 2 true)
      (withRx { Receiver.reset with align := .search, window := [true] })).trib 2).rx.window =
      [true, true] := by decide

/-- R5. -/
theorem test_dark_entry :
    ((after (.darkEntry 2) (filling (aligned 100 0 2) [cell])).trib 2).rx.badRun = 0 ∧
    ((after (.darkEntry 2) (filling (aligned 100 0 2) [cell])).trib 2).store.queue = [cell] ∧
    (after (.darkEntry 2) (filling (aligned 100 0 2) [cell])).free = 95 := by decide

/-! The boundary and the close -/

/-- R85: R + F = 65536 makes a frame of 4097 with fraction 0; R + F = −1 one of 4095 with 65535. -/
theorem test_boundary_length :
    (({ Ftu.reset with fraction := 65535, frequency := 1 } : Ftu).boundary .track).length = 4097 ∧
    (({ Ftu.reset with fraction := 0, frequency := -1 } : Ftu).boundary .track).length = 4095 ∧
    (({ Ftu.reset with fraction := 0, frequency := -1 } : Ftu).boundary .track).fraction = 65535 := by decide

/-- R48: PRIME with C frames queued becomes NORMAL and sends the oldest. -/
theorem test_boundary_readout :
    ((stored (aligned 30 0 0) .prime 0 none (frames 2)).readoutBoundary.trib 2).storeState = .normal ∧
    ((stored (aligned 30 0 0) .prime 0 none (frames 2)).readoutBoundary.trib 2).outFrame =
      0xB0#8 ++ 5#248 := by decide

/-- R83, R84: in ACQUIRE e = 1 gives I = 1 and F = 1 + 512; in TRACK e = −4 gives ΔI = 0 and F = −256. -/
theorem test_close_words :
    (Ftu.reset.close .track (some 1)).integral = 1 ∧ (Ftu.reset.close .track (some 1)).frequency = 513 ∧
    (({ Ftu.reset with gain := .track } : Ftu).close .track (some (-4))).integral = 0 ∧
    (({ Ftu.reset with gain := .track } : Ftu).close .track (some (-4))).frequency = -256 := by decide

/-- R142: a fall at 0 and a rise at 320 are a pulse of grade 5 (64 × 5). -/
theorem test_best_grade :
    Captures.bestGrade { Captures.blank with
      gradeStart := some 0
      grade := { firstFall := some 0, lastRise := some 320, low := some false, sawLow := true } } 255 = 5 := by
  decide

/-- R152: GRADE held low falls at the grade start and is still low 512 ticks later, so the best grade is 7
whatever the width of the other windows (64 × 7 < 512). -/
theorem test_grade_held_low :
    ({ anchored with rail := { anchored.rail with caps := { Captures.blank with
      gradeStart := some 0
      grade := { firstFall := some 0, lastRise := none, low := some true, sawLow := true } } } } :
      State).formAtClose.rail.bestGrade = 7 := by decide

/-! References, rail, the rest -/

/-- R118: the edge rose at tick 93, 13 after B = 80: the offer is 26 half-ticks. -/
theorem test_accepted_edge : (after (.acceptedEdge .refA 14100) anchored).selector.offered = some 26 := by
  decide

/-- R110: the second impairment in a row is the loss; R128: none is left, so HOLD with grade 5. -/
theorem test_missing_edge :
    (after (.missingEdge .refA) { anchored with monA := { goodMonitor with impairRun := 1 } }).modes =
      { mode := .hold, grade := some 5, offsetRun := 0 } := by decide

/-- R139: grade 7 pulls GRADE for 448 ticks. -/
theorem test_grade_start :
    (after .gradeStart anchored).rail.pulses.grade = some (14107 + 448) ∧
    (after .gradeStart anchored).rail.caps.pulseGrade = some 7 := by decide

/-- R137. -/
theorem test_pulse_end :
    (after (.pulseEnd .grade) (after .gradeStart anchored)).ownLow .grade = false := by decide

/-- R141: tick 4090 of a frame of 4096 has position −6. -/
theorem test_capture :
    (after (.railLineCapture .beat .fall 4090) anchored).rail.caps.beat.firstFall = some (-6) := by decide

/-- R141, R152: a LEAD line low from −6 and held high at the own boundary shows its rise at 0; where the boundary
itself is the first fall, no rise comes after it. -/
theorem test_capture_own_boundary :
    (let low := fun f : Option Int => { anchored with
       railDue := true
       ftu := { anchored.ftu with tick := 0 }
       pins := { anchored.pins with lead := .heldHigh }
       rail := { anchored.rail with caps := { Captures.blank with
         lead := LineCapture.ownFall { firstFall := f, lastRise := none, low := some true, sawLow := true } } } }
     (low (some (-6))).readRail.2 = [.railLineCapture .lead .rise 0] ∧
     (after (.railLineCapture .lead .rise 0) (low (some (-6)))).rail.caps.lead.lastRise = some 0 ∧
     (after (.railLineCapture .lead .rise 0) (low none)).rail.caps.lead.lastRise = none) := by decide

/-- R146: BEAT held high at the tick of the grade start breaks the mark. -/
theorem test_mark_broken :
    (after .gradeStart { anchored with pins := { anchored.pins with beat := .heldHigh } }).rail.caps.markBroken =
      true := by decide

/-- R163. -/
theorem test_ej_rise :
    (after .ejRisingEdge { station with
      listen := { Listen.reset with phase := .joinPending, offset := some 7 }
      ftu := { Ftu.reset with joinRequest := some 7 } }).ftu.joinRequest = none := by decide

/-- R173: V is cleared where S is 1 and X is 0, and not where it was raised since. -/
theorem test_acknowledge :
    (after .acknowledgement { station with flags := { Flags.reset with
      dark := ⟨true, true, false⟩, slip := ⟨true, true, true⟩ } }).flags =
      { Flags.reset with dark := ⟨false, true, false⟩, slip := ⟨true, true, true⟩ } := by decide

/-- R58, R56: bit 0 of a fill frame is the first bit of the pattern, OCK falls. -/
theorem test_office_bit :
    (after (.officeBit 1 true) station).out.ock = true ∧ (after (.officeBit 1 true) station).out.oda[2] = false ∧
    (after (.officeBit 0 false) station).out.oda[2] = true := by decide

/-- R155, R24. -/
theorem test_reset_assertion : (after .resetAssertion (filling (aligned 30 0 0) (frames 3))).free = 96 := by
  decide

/-- R102, R103: REFA unused is ABSENT; EJ high at the release withdraws (R157). -/
theorem test_reset_release :
    (State.reset.sampleStraps { straps with rca := 0 } true).monA.state = .absent ∧
    (State.reset.sampleStraps { straps with rca := 0 } true).monB.activity = some 4608 ∧
    (State.reset.sampleStraps { straps with rca := 0 } true).listen.withdrawn = true := by decide

/-! Witnesses: for each statement with hypotheses, one state for each of its clauses that meets them all,
at the ends of the ranges the clauses name -/

theorem witness_Frames :
    (∃ u, exec (.officeBoundary true) anchored = .next u) ∧
    (anchored.listen.withdrawRequest = false ∧ anchored.listen.phase ≠ .joinFrame ∧
      anchored.listen.withdrawn = false ∧ anchored.ftu.joinRequest = none) ∧
    (∃ u, exec .measurementClose anchored = .next u) ∧
    (∃ u, exec (.acceptedEdge .refA 14100) anchored = .next u) ∧
    (∃ u, exec (.missingEdge .refB) anchored = .next u) ∧
    (∃ u, exec (.lineClockEdge 2 true) (filling (aligned 255 0 0) (frames 4)) = .next u) ∧
    (∃ u, exec (.darkEntry 2) (filling (aligned 9 0 0) []) = .next u) ∧ (15 : TribId) ≠ 2 :=
  ⟨⟨_, rfl⟩, by decide, ⟨_, rfl⟩, ⟨_, rfl⟩, ⟨_, rfl⟩, ⟨_, rfl⟩, ⟨_, rfl⟩, by decide⟩

theorem witness_ResetAssertionQuiets : ∀ p ej, Instr.officeBoundary true ≠ .resetRelease p ej := by simp

theorem witness_ResetReleaseStarts :
    State.reset.running = false ∧ (∃ s, exec .resetAssertion anchored = .next s) ∧ straps.refCode .refA ≠ 0b00#2 ∧
    { straps with rca := 0 }.refCode .refA = 0b00#2 := ⟨rfl, ⟨_, rfl⟩, by decide, by decide⟩

/-- A station of four tributaries. -/
def fourTribs : State := { station with straps := { straps with tct := .four } }

theorem witness_NoOccasion :
    fourTribs.enabled 4 = false ∧ fourTribs.enabled 3 = true ∧ (station.trib 15).rx.align = .dark ∧
    station.running = true := by decide

theorem witness_LeaveDark :
    fourTribs.running = true ∧ fourTribs.enabled 3 = true ∧ (fourTribs.trib 3).rx.align = .dark := by decide

theorem witness_SearchAndCandidate :
    (withRx searching).running = true ∧ (withRx searching).enabled 2 = true ∧
    ((withRx searching).trib 2).rx.align = .search ∧
    ((withRx searching).trib 2).rx.window = [] ++ [true, false, true, true, false, true, false] ∧
    ((withRx { searching with window := List.replicate 6 true }).trib 2).rx.window.length < 7 ∧
    ((withRx { searching with window := false :: List.replicate 7 true }).trib 2).rx.window =
      [false] ++ [true, true, true, true, true, true, true] := by decide

theorem witness_VerifyCheck :
    (let s := withRx (verifying .first 7)
     let o := (((s.trib 2).rx.octet <<< 1) ||| 1#8 : Octet)
     s.running = true ∧ s.enabled 2 = true ∧ (s.trib 2).rx.align = .verify ∧ (s.trib 2).rx.countdown = 1 ∧
      (s.trib 2).rx.verifyStep = .first ∧ o.extractLsb' 4 4 = 0b1011#4 ∧
      o.extractLsb' 1 3 = (s.trib 2).rx.candIndex + 1) ∧
    (let s := withRx (verifying .second 6)
     let o := (((s.trib 2).rx.octet <<< 1) ||| 0#8 : Octet)
     (s.trib 2).rx.align = .verify ∧ (s.trib 2).rx.countdown = 1 ∧
      (s.trib 2).rx.verifyStep = .second ∧ o.extractLsb' 4 4 = 0b1011#4 ∧
      o.extractLsb' 1 3 = (s.trib 2).rx.candIndex + 2) ∧
    (let s := withRx (verifying .second 5)
     let o := (((s.trib 2).rx.octet <<< 1) ||| 0#8 : Octet)
     (s.trib 2).rx.countdown = 1 ∧ o.extractLsb' 1 3 ≠ (s.trib 2).rx.candIndex + 2) := by decide

theorem witness_PlainEdges :
    (let s := withRx { verifying .first 0 with countdown := 2 }
     s.running = true ∧ s.enabled 2 = true ∧ (s.trib 2).rx.align = .verify ∧ 2 ≤ (s.trib 2).rx.countdown) ∧
    (let s := filling (aligned 6 0 0) []
     (s.trib 2).rx.align = .aligned ∧ (s.trib 2).rx.bitPos < 7) ∧
    (let s := filling (aligned 8 0 0) []
     (s.trib 2).rx.align = .aligned ∧ 8 ≤ (s.trib 2).rx.bitPos ∧ (s.trib 2).rx.bitPos < 255 ∧
      (s.trib 2).store.filling = some 0) ∧
    (let s := filling (aligned 254 0 0) []
     8 ≤ (s.trib 2).rx.bitPos ∧ (s.trib 2).rx.bitPos < 255 ∧ (s.trib 2).store.filling = some 0) := by decide

theorem witness_SyncOctetCheck :
    (let s := filling (aligned 7 0 3) []
     let o := (((s.trib 2).rx.octet <<< 1) ||| 1#8 : Octet)
     s.running = true ∧ s.enabled 2 = true ∧ (s.trib 2).rx.align = .aligned ∧ (s.trib 2).rx.bitPos = 7 ∧
      o.extractLsb' 4 4 = 0b1011#4 ∧ o.extractLsb' 1 3 = (s.trib 2).rx.expected) ∧
    (let s := filling (aligned 7 1 2) []
     let o := (((s.trib 2).rx.octet <<< 1) ||| 1#8 : Octet)
     (s.trib 2).rx.bitPos = 7 ∧ o.extractLsb' 1 3 ≠ (s.trib 2).rx.expected ∧ (s.trib 2).rx.badRun < 3) ∧
    (let s := filling (aligned 7 1 3) []
     let o := (((s.trib 2).rx.octet <<< 1) ||| 1#8 : Octet)
     (s.trib 2).rx.bitPos = 7 ∧ o.extractLsb' 1 3 ≠ (s.trib 2).rx.expected ∧ (s.trib 2).rx.badRun = 3 ∧
      (s.trib 2).store.filling.isSome = true) := by decide

theorem witness_DarkEntry :
    ((withRx searching).running = true ∧ (withRx searching).enabled 2 = true ∧
      ((withRx searching).trib 2).rx.align = .search) ∧
    ((withRx (verifying .second 3)).trib 2).rx.align ≠ .dark ∧
    ((filling (aligned 9 0 0) []).trib 2).rx.align = .aligned := by decide

theorem witness_FrameCompletion :
    (let s := filling (aligned 255 0 0) (frames 4)
     s.running = true ∧ s.enabled 2 = true ∧ (s.trib 2).rx.align = .aligned ∧ (s.trib 2).rx.bitPos = 255 ∧
      (s.trib 2).store.filling = some 0 ∧ (s.trib 2).store.queue.length = s.straps.dep.value) ∧
    (let s := filling (aligned 255 0 0) (frames 3)
     (s.trib 2).rx.align = .aligned ∧ (s.trib 2).rx.bitPos = 255 ∧ (s.trib 2).store.filling = some 0 ∧
      (s.trib 2).store.queue.length ≠ s.straps.dep.value) := by decide

/-- Tributary 14 (class 3) holds n queued cells and no filling cell, tributary 1 (class 0) holds m. -/
def requesting (n m free : Nat) : State :=
  ((station.modStore 14 fun x => { x with queue := frames n }).modStore 1 fun x =>
    { x with queue := frames m }).setFree free

theorem witness_CellRequest :
    (let s := requesting 2 0 46
     (s.trib 14).store.filling = none ∧ s.holdings 14 < 3) ∧
    (let s := requesting 3 0 46
     (s.trib 14).store.filling = none ∧ s.unmet ≤ s.free - 1 ∧ 1 ≤ s.free ∧ s.unmet + 1 = s.free) ∧
    (let s := requesting 3 4 42
     (s.trib 14).store.filling = none ∧ 3 ≤ s.holdings 14 ∧ s.free < s.unmet + 1 ∧ s.victim 14 = some 1) ∧
    (let s := requesting 3 3 42
     (s.trib 14).store.filling = none ∧ 3 ≤ s.holdings 14 ∧ s.free < s.unmet + 1 ∧ s.victim 14 = none) := by
  decide

theorem witness_VictimChoice :
    (requesting 3 4 42).victim 14 = some 1 ∧
    (let s := requesting 3 3 42
     s.victim 14 = none ∧ 3 ≤ s.holdings 14 ∧ s.free < s.unmet + 1) := by decide

/-- Tributary 2 with a full queue at the last bit of a frame: six cells of the pool are out. -/
def full : State :=
  { (stored (aligned 255 0 0) .normal 0 (some cell) (frames 4)).setFree 90 with
    pending := [.frameCompletion 2 true] }

theorem full_poolLaw : full.PoolLaw where
  tribs t := by
    revert t
    have h : ∀ t : TribId,
        ((full.trib t).store.filling.isSome = true ↔ (full.trib t).rx.align = .aligned) ∧
        ((full.trib t).store.transmitting.isSome = true ↔
          (full.trib t).storeState = .normal ∨ (full.trib t).storeState = .refill) ∧
        (full.trib t).store.queue.length ≤ full.depth ∧
        ((full.trib t).storeState = .idle →
          (full.trib t).store.queue = [] ∧ (full.trib t).rx.align ≠ .aligned) ∧
        ((full.trib t).repeatRun ≤ 255 ∧
          ((full.trib t).storeState ≠ .refill → (full.trib t).repeatRun = 0)) ∧
        (full.enabled t = false → (full.trib t).rx.align = .dark ∧ (full.trib t).storeState = .idle) := by
      decide
    intro t
    obtain ⟨h1, h2, h3, h4, h5, h6⟩ := h t
    exact ⟨h1, h2, h3, h4, h5, h6⟩
  cells := by decide
  reserve := by decide
  reset h := absurd h (by decide)

theorem witness_PoolLawKept : full.PoolLaw ∧ ∃ u, step full = .next u := ⟨full_poolLaw, _, rfl⟩

/-- The states that the boundary's decision tells apart (R48 to R52), at DEP 4 and C 2. -/
theorem witness_BoundaryReadout :
    station.running = true ∧ fourTribs.enabled 4 = false ∧ station.enabled 2 = true ∧
    station.straps.dep.centre = 2 ∧ (aligned 30 0 0).align = .aligned ∧ searching.align ≠ .aligned ∧
    (∀ (x : Receiver) (st : StoreState) (c : Option Cell) (n : Nat),
      ((stored x st 0 c (frames n)).trib 2).storeState = st ∧
      ((stored x st 0 c (frames n)).trib 2).rx = x ∧
      ((stored x st 0 c (frames n)).trib 2).store.queue = frames n ∧
      ((stored x st 0 c (frames n)).trib 2).store.transmitting = c ∧
      (stored x st 0 c (frames n)).running = true ∧ (stored x st 0 c (frames n)).enabled 2 = true ∧
      (stored x st 0 c (frames n)).straps.dep.centre = 2) ∧
    (frames 1).length < 2 ∧ 2 ≤ (frames 2).length ∧ frames 0 = [] ∧ 1 ≤ (frames 1).length := by
  refine ⟨by decide, by decide, by decide, by decide, by decide, by decide, ?_, by decide, by decide, rfl,
    by decide⟩
  intro x st c n
  refine ⟨?_, ?_, ?_, ?_, rfl, rfl, rfl⟩ <;> simp [stored]

/-- The same states serve for the record: see witness_BoundaryReadout. -/
theorem witness_BoundaryRecord :
    (let s := stored (aligned 30 0 0) .normal 0 (some cell) []
     s.running = true ∧ s.enabled 2 = true ∧ (s.trib 2).storeState = .normal ∧ (s.trib 2).store.queue = [] ∧
      (s.trib 2).rx.align = .aligned) ∧
    (let s := stored (aligned 30 0 0) .refill 254 (some cell) (frames 1)
     (s.trib 2).storeState = .refill ∧ (s.trib 2).rx.align = .aligned ∧
      (s.trib 2).store.queue.length < s.straps.dep.centre) ∧
    (let s := stored (aligned 30 0 0) .refill 255 (some cell) (frames 2)
     (s.trib 2).storeState = .refill ∧ s.straps.dep.centre ≤ (s.trib 2).store.queue.length) ∧
    (let s := stored searching .normal 0 (some cell) []
     (s.trib 2).storeState = .normal ∧ (s.trib 2).rx.align ≠ .aligned) ∧
    ((stored searching .prime 0 none []).trib 2).storeState = .prime := by decide

theorem witness_MarksOrderedKept :
    full.PoolLaw ∧ (∀ t, (full.trib t).record.MarksOrdered) ∧ ∃ u, step full = .next u := by
  refine ⟨full_poolLaw, ?_, _, rfl⟩
  have h : ∀ t : TribId, (full.trib t).record.runLow ≤ (full.trib t).record.runHigh ∧
      (full.trib t).record.low ≤ (full.trib t).record.high ∧ (full.trib t).record.runHigh ≤ 8 ∧
      (full.trib t).record.high ≤ 8 := by decide
  exact h

theorem witness_FirstSlipKept :
    Instr.frameCompletion 2 true ≠ .resetAssertion ∧
    (let s := full.modRecord 2 fun r => r.slip .repeated ⟨1, 7999⟩ 1 0 48
     (s.trib 2).record.firstSlip = some ⟨.repeated, ⟨1, 7999⟩⟩ ∧
      ∃ u, exec (.frameCompletion 2 true) s = .next u) := ⟨by decide, by decide, _, rfl⟩

/-! Timing -/

/-- Change the FTU. -/
def ftuIs (s : State) (f : Ftu → Ftu) : State := { s with ftu := f s.ftu }

theorem witness_BoundaryLength :
    station.running = true ∧ station.ftu.joinRequest = none ∧
    (ftuIs station fun f => { f with joinRequest := some 4095 }).ftu.joinRequest = some 4095 ∧
    (let s := ftuIs station fun f => { f with fraction := 65535, frequency := 65535 }
     0 ≤ s.ftu.fraction ∧ s.ftu.fraction ≤ 65535 ∧ -65535 ≤ s.ftu.frequency ∧ s.ftu.frequency ≤ 65535) := by
  decide

theorem witness_BoundaryClock :
    (station.running = true ∧ station.ftu.frameInSecond ≤ 7999 ∧ station.ftu.indexRequest = none) ∧
    (let s := ftuIs station fun f => { f with frameInSecond := 7998, indexRequest := some (.relabel 7) }
     s.ftu.frameInSecond < 7999 ∧ s.ftu.indexRequest = some (.relabel 7)) ∧
    (let s := ftuIs holding fun f => { f with frameInSecond := 7999, holdAge := 86400 }
     s.running = true ∧ s.ftu.frameInSecond = 7999 ∧ s.modes.mode = .hold ∧
      s.listen.withdrawRequest = false ∧ s.ftu.holdAge ≤ 86400) ∧
    (let s := ftuIs station fun f => { f with frameInSecond := 7999, indexRequest := some (.setTo 0) }
     s.ftu.frameInSecond = 7999 ∧ s.modes.mode ≠ .hold ∧ s.ftu.indexRequest = some (.setTo 0)) := by decide

theorem witness_CloseComputation :
    ((512 : Int) = max (-512) (min 512 513)) ∧ ((-512 : Int) = max (-512) (min 512 (-513))) ∧
    ((0 : Int) = (((4 : Int) - 8) + 4) / 8) := by decide

theorem witness_GainRuns :
    (let f := { Ftu.reset with settleRun := 63 }
     f.gain = .acquire ∧ (-8 : Int).natAbs ≤ 8 ∧ f.settleRun = 63 ∧ (-8 : Int) = max (-512) (min 512 (-8))) ∧
    (let f := { Ftu.reset with settleRun := 62 }
     f.gain = .acquire ∧ f.settleRun < 63 ∧ 8 < (9 : Int).natAbs) ∧
    (let f := { Ftu.reset with gain := .track, excursionRun := 15 }
     f.gain = .track ∧ 256 < (-257 : Int).natAbs ∧ f.excursionRun = 15) ∧
    (let f := { Ftu.reset with gain := .track, excursionRun := 14 }
     f.gain = .track ∧ f.excursionRun < 15 ∧ (256 : Int).natAbs ≤ 256) := by decide

theorem witness_History :
    ({ Ftu.reset with gain := .track } : Ftu).gain = .track ∧ Ftu.reset.gain = .acquire ∧
    ((1 : Int) = 256 * 1 - 255 ∧ (1 : Int) ≤ 1) ∧ ((-1 : Int) = 256 * 0 - 1 ∧ (-1 : Int) ≤ -1) ∧
    ((0 : Int) = 256 * 32767 - 8388352) ∧ ((-8388352 : Int) ≤ 8388352 ∧ (32767 : Int) ≤ 32767) := by decide

theorem witness_RangeRun :
    (let f := { Ftu.reset with integral := 32767, gain := .acquire, rangeRun := 7999 }
     let raw := (f.close .track (some 512)).integral + 512 * 512
     ¬ (-65535 ≤ raw ∧ raw ≤ 65535) ∧ f.rangeRun = 7999) ∧
    (let f := { Ftu.reset with rangeRun := 7998 }
     let raw := (f.close .track (some (-129))).integral + 512 * (-129)
     ¬ (-65535 ≤ raw ∧ raw ≤ 65535) ∧ f.rangeRun < 7999) ∧
    (let raw := (Ftu.reset.close .track (some 127)).integral + 512 * 127;
     -65535 ≤ raw ∧ raw ≤ 65535) := by decide

/-- Captures of a GRADE pulse of 64 × g ticks that begins at 0. -/
def heardGrade (g : Int) : Captures :=
  { Captures.blank with
    gradeStart := some 0
    grade := { firstFall := some 0, lastRise := some (64 * g), low := some false, sawLow := true } }

/-- A station in HOLD that hears grade g. -/
def holdingHears (g : Int) : State :=
  { holding with rail := { holding.rail with caps := heardGrade g, drivenGrade := some 5 } }

/-- What a close leaves of its results is what it forms (R142, R143). -/
theorem close_results (s : State) (h : s.running = true) :
    ∃ u, exec .measurementClose s = .next u ∧ u.rail.SameResults s.formAtClose.rail :=
  ⟨s.takeClose, by simp [exec, execMeasurementClose, h], s.takeClose_results⟩

/-- A station in TRACK that has seen a LEAD pulse of the own length. -/
def hearsLead : State :=
  { tracking with rail := { tracking.rail with caps := { Captures.blank with
      lead := { firstFall := some 0, lastRise := some 32, low := some false, sawLow := true } } } }

/-- In TRACK with the run at 63 and at 62 and no LEAD; with LEAD seen; in HOLD hearing 6, one better than 5, and
hearing 5, no better. -/
theorem witness_CloseSource :
    (station.running = true ∧ station.modes.mode = .listen) ∧
    (anchored.running = true ∧ anchored.modes.mode = .anchor) ∧
    (∃ s : State, s.running = true ∧ s.modes.mode = .track ∧ s.rail.leadAbsentRun = 63 ∧
      ∃ u, exec .measurementClose s = .next u ∧ u.rail.railError = none) ∧
    (∃ s : State, s.running = true ∧ s.modes.mode = .track ∧ s.rail.leadAbsentRun = 62 ∧
      ∃ u, exec .measurementClose s = .next u ∧ u.rail.railError = none) ∧
    (hearsLead.modes.mode = .track ∧ ∃ u, exec .measurementClose hearsLead = .next u ∧ u.rail.railError ≠ none) ∧
    (∃ u, exec .measurementClose tracking = .next u ∧
      ¬ (u.rail.railError = none ∧ tracking.rail.leadAbsentRun = 63)) ∧
    (∃ u, exec .measurementClose (holdingHears 6) = .next u ∧
      (holdingHears 6).modes.grade.getD 0 < u.rail.bestGrade ∧
      (holdingHears 6).rail.drivenGrade.getD 0 < u.rail.bestGrade ∧
      (holdingHears 6).rail.caps.pulseGrade.getD 0 < u.rail.bestGrade) ∧
    (∃ u, exec .measurementClose (holdingHears 5) = .next u ∧
      ¬ ((holdingHears 5).modes.grade.getD 0 < u.rail.bestGrade)) := by
  have absent : ∀ n, ∃ s : State, s.running = true ∧ s.modes.mode = .track ∧ s.rail.leadAbsentRun = n ∧
      ∃ u, exec .measurementClose s = .next u ∧ u.rail.railError = none := by
    intro n
    obtain ⟨u, h, g⟩ := close_results { tracking with rail := { tracking.rail with leadAbsentRun := n } } rfl
    exact ⟨_, rfl, rfl, rfl, u, h, g.railError.trans rfl⟩
  refine ⟨by decide, by decide, absent 63, absent 62, ⟨rfl, ?_⟩, ?_, ?_, ?_⟩
  · obtain ⟨u, h, g⟩ := close_results hearsLead rfl
    refine ⟨u, h, ?_⟩
    rw [g.railError]
    decide
  · obtain ⟨u, h, -⟩ := close_results tracking rfl
    exact ⟨u, h, fun k => absurd k.2 (by decide)⟩
  · obtain ⟨u, h, g⟩ := close_results (holdingHears 6) rfl
    refine ⟨u, h, ?_⟩
    rw [g.bestGrade]
    decide
  · obtain ⟨u, h, g⟩ := close_results (holdingHears 5) rfl
    refine ⟨u, h, ?_⟩
    rw [g.bestGrade]
    decide

theorem witness_FtuRangesKept :
    (ftuIs station fun f => { f with integral := -32767, frequency := 65535, fraction := 65535 }).ftu.Ranges ∧
    ∃ u, step (ftuIs station fun f => { f with integral := -32767, frequency := 65535, fraction := 65535 }) =
      .next u := by
  refine ⟨⟨?_, ?_, ?_, ?_, ?_, ?_, ?_, ?_, ?_, ?_⟩, _, rfl⟩ <;>
    simp [ftuIs, station, State.reset, Ftu.reset, Within, Config.maxIntegral, Config.maxFrequency,
      Config.maxHistory, Config.framesPerSecond]

/-! References -/

/-- Give REFA a monitor. -/
def refA (s : State) (m : Monitor) : State := { s with monA := m }

theorem witness_ReferenceClasses :
    { straps with rca := 0b00 }.refCode .refA = 0b00#2 ∧ straps.refCode .refB = 0b01#2 ∧
    straps.refCode .refA = 0b10#2 ∧ { straps with rcb := 0b11 }.refCode .refB = 0b11#2 ∧
    ((refA station { Monitor.reset with state := .absent }).monitor .refA).state = .absent := by decide

/-- Good intervals of 4092 and 4100 ticks, bad ones of 4091 and 4101, no interval; the counts before Q. -/
theorem witness_EarningTrust :
    station.running = true ∧ station.selector.selected ≠ some .refA ∧
    (let m := { Monitor.reset with lastEdge := some 10000 }
     m.state = .down ∧ m.lastEdge = some 10000 ∧ 10000 + 4092 ≤ 14092 ∧ 14092 ≤ 10000 + 4100 ∧
      14100 ≤ 10000 + 4100 ∧ ¬ (10000 + 4092 ≤ 14091 ∧ 14091 ≤ 10000 + 4100) ∧
      ¬ (10000 + 4092 ≤ 14101 ∧ 14101 ≤ 10000 + 4100)) ∧
    (Monitor.reset.state = .down ∧ Monitor.reset.lastEdge = none) ∧
    (let m := { nearlyQualified false with qualCount := 79998 }
     m.state = .qualifying ∧ m.qualCount + 1 < (if m.flap then 2400000 else 80000)) ∧
    (let m := nearlyQualified true
     m.state = .qualifying ∧ m.qualCount + 1 = (if m.flap then 2400000 else 80000)) ∧
    { nearlyQualified false with lastEdge := none }.lastEdge = none := by decide

/-- A station in ANCHOR on REFB. -/
def onRefB : State :=
  { anchored with
    monB := goodMonitor
    monA := nearlyQualified false
    selector := { selected := some .refB, buildOut := 0, buildPending := false, offered := none }
    modes := { mode := .anchor, grade := some 6, offsetRun := 0 } }

theorem witness_Qualification :
    (let s := refA station (nearlyQualified false)
     s.running = true ∧ (s.monitor .refA).state = .qualifying ∧ (s.monitor .refA).lastEdge = some 10000 ∧
      (s.monitor .refA).qualCount + 1 = (if (s.monitor .refA).flap then 2400000 else 80000) ∧
      s.selector.selected ≠ some .refA ∧ s.modes.mode = .listen) ∧
    (let s := refA tracking (nearlyQualified true)
     (s.monitor .refA).state = .qualifying ∧ (s.monitor .refA).lastEdge = some 10000 ∧
      (s.monitor .refA).qualCount + 1 = (if (s.monitor .refA).flap then 2400000 else 80000) ∧
      s.modes.mode ≠ .listen ∧ s.selector.selected = none ∧
      (s.monitor RefId.refA.other).state ≠ .qualified) ∧
    (let s := onRefB
     (s.monitor .refA).state = .qualifying ∧ s.modes.mode = .anchor ∧
      s.selector.selected = some RefId.refA.other ∧ s.straps.refClass .refA = some .classA ∧
      s.straps.refClass RefId.refA.other = some .classB) ∧
    (let s := { onRefB with straps := { straps with rca := 0b01 } }
     (s.monitor .refA).state = .qualifying ∧ s.selector.selected = some RefId.refA.other ∧
      ¬ (s.straps.refClass .refA = some .classA)) := by decide

/-- `anchored` at another build-out and place in the frame. -/
def anchoredAt (b : Int) (start : Nat) : State :=
  { anchored with
    selector := { anchored.selector with buildOut := b }
    ftu := { anchored.ftu with frameStart := start } }

/-- The three forms of the short way, at 2047, at 2048 and at −2049; the edge rises at crystal tick 14100, or
1 or 7 ticks before the boundary. Then intervals of 4092 and 4100 ticks, of 4091 and 4101, and none; a reference
that is not selected, and a pending build-out. -/
theorem witness_SelectedEdge :
    anchored.running = true ∧ anchored.selector.selected = some .refA ∧
    (anchored.monitor .refA).state = .qualified ∧ (anchored.monitor .refA).lastEdge = some 10000 ∧
    (let s := anchoredAt 0 12053
     14100 = s.ftu.frameStart + 2047 ∧ 2047 < s.ftu.length ∧ (2047 : Int) = 2047 - s.selector.buildOut) ∧
    (let s := anchoredAt (-1) 12053
     14100 = s.ftu.frameStart + 2047 ∧ (2047 : Int) < 2047 - s.selector.buildOut) ∧
    (let s := anchoredAt 1 12052
     14100 = s.ftu.frameStart + 2048 ∧ 2048 < s.ftu.length ∧
      (-2048 : Int) = max (-2048) ((2048 : Int) - s.ftu.length) ∧
      (-2048 : Int) - s.selector.buildOut < -2048) ∧
    (14100 + 1 = (anchoredAt 0 14101).ftu.frameStart ∧ 14100 + 7 = (anchoredAt 0 14107).ftu.frameStart) ∧
    (10000 + 4092 ≤ 14092 ∧ 14100 ≤ 10000 + 4100 ∧ 14091 < 10000 + 4092 ∧ 10000 + 4100 < 14101) ∧
    (anchored.monitor .refA).impairRun = 0 ∧
    (let s := { anchored with monB := { goodMonitor with lastEdge := none, impairRun := 1 } }
     (s.monitor .refB).state = .qualified ∧ (s.monitor .refB).lastEdge = none ∧
      s.selector.selected ≠ some .refB) ∧
    { anchored with selector := { anchored.selector with buildPending := true } }.selector.buildPending =
      true := by decide

theorem witness_ReferenceLoss :
    (anchored.running = true ∧ (anchored.monitor .refA).state = .qualified ∧
      (anchored.monitor .refA).impairRun = 0) ∧
    (let s := refA anchored { goodMonitor with impairRun := 1, lastLoss := some ⟨0, 0⟩ }
     s.running = true ∧ (s.monitor .refA).state = .qualified ∧ (s.monitor .refA).impairRun = 1 ∧
      s.selector.selected = some .refA ∧ s.modes.mode = .anchor ∧
      (s.monitor RefId.refA.other).state ≠ .qualified ∧
      8000 * ((s.stamp.seconds - 0).toNat : Int) + (s.stamp.frame - 0 : Int) < 4800000) ∧
    (let s := { refA anchored { goodMonitor with impairRun := 1, lastLoss := some ⟨0, 0⟩ } with
       monB := goodMonitor
       ftu := { anchored.ftu with seconds := 600 } }
     (s.monitor .refA).impairRun = 1 ∧ s.modes.mode = .anchor ∧
      (s.monitor RefId.refA.other).state = .qualified ∧
      ¬ 8000 * ((s.stamp.seconds - 0).toNat : Int) + (s.stamp.frame - 0 : Int) < 4800000) ∧
    (let s := { onRefB with monA := { goodMonitor with impairRun := 1 } }
     (s.monitor .refA).state = .qualified ∧ (s.monitor .refA).impairRun = 1 ∧
      s.selector.selected ≠ some .refA) ∧
    (let s := refA anchored { goodMonitor with impairRun := 1 }
     ∀ n ∈ [14091, 14101], ∃ c last waits, c = Instr.acceptedEdge .refA n ∧
      (s.monitor .refA).lastEdge = some 10000 ∧ (n < 10000 + 4092 ∨ 10000 + 4100 < n) ∧
      last = some n ∧ waits = false) := by
  refine ⟨by decide, by decide, by decide, by decide, ?_⟩
  intro s n hn
  refine ⟨_, _, _, rfl, rfl, ?_, rfl, rfl⟩
  simp at hn
  omega

theorem witness_QualifiedRun :
    (station.running = true ∧ (station.monitor .refA).state ≠ .qualified) ∧
    (let s := refA station { goodMonitor with qualRun := 4799998 }
     (s.monitor .refA).state = .qualified ∧ (s.monitor .refA).qualRun < 4799999) ∧
    ((refA station { goodMonitor with qualRun := 4799999 }).monitor .refA).qualRun = 4799999 ∧
    ((refA station { goodMonitor with qualRun := 4800000 }).monitor .refA).qualRun = 4800000 := by decide

/-! Modes -/

theorem witness_Grades : (Mode.track ≠ .listen) ∧ 899 ≤ 899 ∧ 900 ≤ 900 ∧ 86399 ≤ 86399 := by decide

/-- `anchored` with a LEAD pulse captured and an offset run. -/
def offsetAt (f r : Int) (run : Nat) : State :=
  { anchored with
    modes := { anchored.modes with offsetRun := run }
    rail := { anchored.rail with caps := { Captures.blank with
      lead := { firstFall := some f, lastRise := some r, low := some false, sawLow := true } } } }

/-- Rail errors of 257 and 256 half-ticks, at runs 7999 and 7998. -/
theorem witness_OffsetRun :
    (∃ u, (offsetAt 100 189 7999).running = true ∧ (offsetAt 100 189 7999).modes.mode = .anchor ∧
      exec .measurementClose (offsetAt 100 189 7999) = .next u ∧
      (∃ e : Int, u.rail.railError = some e ∧ 256 < e.natAbs) ∧
      (offsetAt 100 189 7999).modes.offsetRun = 7999) ∧
    (∃ u, exec .measurementClose (offsetAt 100 189 7998) = .next u ∧
      (∃ e : Int, u.rail.railError = some e ∧ 256 < e.natAbs) ∧
      (offsetAt 100 189 7998).modes.offsetRun < 7999) ∧
    (∃ u, exec .measurementClose (offsetAt 100 188 7999) = .next u ∧
      ¬ ((∃ e : Int, u.rail.railError = some e ∧ 256 < e.natAbs) ∨
        (u.rail.railError = none ∧ (offsetAt 100 188 7999).rail.drivingLead = false))) := by
  refine ⟨?_, ?_, ?_⟩
  · obtain ⟨u, h, g⟩ := close_results (offsetAt 100 189 7999) rfl
    exact ⟨u, rfl, rfl, h, ⟨257, g.railError.trans (by decide), by decide⟩, rfl⟩
  · obtain ⟨u, h, g⟩ := close_results (offsetAt 100 189 7998) rfl
    exact ⟨u, h, ⟨257, g.railError.trans (by decide), by decide⟩, by decide⟩
  · obtain ⟨u, h, g⟩ := close_results (offsetAt 100 188 7999) rfl
    have k : u.rail.railError = some 256 := g.railError.trans (by decide)
    exact ⟨u, h, by simp [k]⟩

theorem anchored_modeLaw : anchored.ModeLaw where
  anchor := by decide
  qualified := by intro r; cases r <;> decide
  listening := by decide
  grade _ := ⟨7, by decide⟩
  phase := by decide
  request := by decide
  withdrawn := by decide
  noJoin := by decide
  drive := by decide
  reset := by decide

/-- A listening station with a LISTEN procedure and a join request that agree meets the law. -/
theorem listening_modeLaw (x : Listen) (j : Option Nat)
    (h1 : j.isSome = true → x.phase = .joinPending) (h2 : x.withdrawn = true → x.phase = .running)
    (h3 : x.withdrawRequest = true → x.phase ≠ .joinPending) :
    ({ station with listen := x, ftu := { Ftu.reset with joinRequest := j } } : State).ModeLaw where
  anchor := by simp [station, State.reset, ModeMachine.reset, Selector.reset]
  qualified r h := by cases h
  listening _ := rfl
  grade h := absurd rfl h
  phase _ := rfl
  request := h1
  withdrawn h := ⟨rfl, h2 h⟩
  noJoin := h3
  drive _ := ⟨rfl, rfl⟩
  reset h := absurd h (by simp [station, State.running])

theorem witness_ModeLawKept : anchored.ModeLaw ∧ ∃ u, step anchored = .next u := ⟨anchored_modeLaw, _, rfl⟩

/-! The rail -/

theorem witness_BoundaryDrives :
    (anchored.running = true ∧ anchored.modes.mode ≠ .listen ∧ anchored.listen.phase = .running ∧
      anchored.listen.withdrawn = false ∧ anchored.listen.withdrawRequest = false ∧
      anchored.ftu.joinRequest = none) ∧ anchored.ModeLaw ∧
    (∃ s : State, s.running = true ∧ s.ModeLaw ∧ s.modes.mode = .listen) :=
  ⟨by decide, anchored_modeLaw, _, by decide,
    listening_modeLaw Listen.reset none (by decide) (by decide) (by decide), rfl⟩

/-- A station in LISTEN with its window open. -/
def listening : State := { station with rail := { Rail.reset with width := .listen, listenWindow := true } }

theorem witness_GradeStart :
    (after .gradeStart anchored).rail.caps.gradeStart.isSome = true ∧
    (let s := { listening with
       pins := { listening.pins with grade := .pulledLow }
       rail := { listening.rail with caps := { Captures.blank with
         beat := { LineCapture.blank with firstFall := some 40 } } } }
     s.rail.caps.gradeStart = none ∧ s.modes.mode = .listen ∧
      (after .gradeStart s).rail.caps.gradeStart = some 40 ∧
      (after .gradeStart { s with pins := { s.pins with grade := .heldHigh } }).rail.caps.gradeStart.isSome = true) ∧
    (anchored.running = true ∧ anchored.rail.caps.gradeStart = none ∧
      anchored.rail.caps.beat.firstFall = none ∧ anchored.modes.mode ≠ .listen ∧
      anchored.modes.grade = some 7 ∧ anchored.pins.grade ≠ .heldHigh) ∧
    (station.rail.caps.gradeStart = none ∧ station.rail.caps.beat.firstFall = none ∧
      station.modes.mode = .listen) ∧
    (holdingHears 5).rail.caps.gradeStart = some 0 ∧
    (after (.railLineCapture .beat .fall 4090) anchored).rail.caps.beat.firstFall = some (-6) := by decide

theorem witness_PulseEnd : (after .gradeStart anchored).running = true ∧ RailLine.beat ≠ .grade := by decide

/-- Positions 255, −256 and −257 of a narrow window, 2047 and −2048 of a wide one, and the last tick of the
LISTEN window; the first and last ticks of a GRADE window and the ticks beside it; a rise with no first fall, at
its tick and a tick later; and BEAT rising 80 and 81 ticks after the grade start. -/
theorem witness_Capture :
    (anchored.running = true ∧ RailLine.lead ≠ .grade ∧ anchored.rail.width = .narrow) ∧
    ((255 : Int) = if 255 ≤ 2047 then ((255 : Nat) : Int) else ((255 : Nat) : Int) - anchored.ftu.length) ∧
    ((-256 : Int) = if 3840 ≤ 2047 then ((3840 : Nat) : Int) else ((3840 : Nat) : Int) - anchored.ftu.length) ∧
    ((-257 : Int) = if 3839 ≤ 2047 then ((3839 : Nat) : Int) else ((3839 : Nat) : Int) - anchored.ftu.length) ∧
    (let s := { anchored with rail := { anchored.rail with width := .wide } }
     s.rail.width = .wide ∧
      ((-2048 : Int) = if 2048 ≤ 2047 then ((2048 : Nat) : Int) else ((2048 : Nat) : Int) - s.ftu.length)) ∧
    (let s := { anchored with
       rail := { anchored.rail with width := .wide }, ftu := { anchored.ftu with length := 4097 } }
     s.rail.width = .wide ∧
      ((2048 : Nat) : Int) - s.ftu.length < -2048) ∧
    (listening.running = true ∧ listening.rail.width = .listen ∧ listening.rail.listenWindow = true ∧
      4095 < listening.ftu.length ∧ ¬ 4096 < listening.ftu.length) ∧
    (joining.rail.width = .listen ∧ joining.rail.listenWindow = false) ∧
    (let c := { Captures.blank with gradeStart := some (-6) }
     c.gradeStart = some (-6) ∧ (-6 : Int) ≤ -6 ∧ (505 : Int) ≤ -6 + 511 ∧ ¬ (506 : Int) ≤ -6 + 511 ∧
      ¬ (-6 : Int) ≤ -7 ∧ (74 : Int) ≤ -6 + 80 ∧ ¬ (75 : Int) ≤ -6 + 80) ∧
    (Captures.blank.get .lead).firstFall = none ∧
    (let c := (after (.railLineCapture .beat .fall 4090) anchored).rail.caps
     (c.get .beat).firstFall = some (-6) ∧ (-6 : Int) < -5 ∧ ¬ (-6 : Int) < -6) := by decide

theorem witness_BestGrade :
    (let c := heardGrade 7
     c.gradeStart = some 0 ∧ c.grade.firstFall = some 0 ∧ c.grade.low = some false ∧
      c.grade.lastRise = some 448) ∧
    (let c := { heardGrade 7 with
       grade := { firstFall := some 0, lastRise := none, low := some true, sawLow := true } }
     c.gradeStart = some 0 ∧ c.grade.firstFall = some 0 ∧ c.grade.low = some true ∧ (0 : Int) + 511 ≤ 511 ∧
      (510 : Int) < 0 + 511) ∧
    ({ heardGrade 7 with grade := LineCapture.blank }).grade.firstFall = none := by decide

theorem witness_CloseForms :
    (let s := offsetAt (-256) 255 0
     s.running = true ∧ s.modes.mode ≠ .listen ∧ s.rail.caps.lead.firstFall = some (-256) ∧
      s.rail.caps.lead.low = some false ∧ s.rail.caps.lead.lastRise = some 255) ∧
    (let s := { anchored with rail := { anchored.rail with caps := { Captures.blank with
       lead := { firstFall := some 255, lastRise := none, low := some true, sawLow := true } } } }
     s.running = true ∧ s.modes.mode ≠ .listen ∧ s.rail.caps.lead.firstFall = some 255 ∧
      s.rail.caps.lead.low = some true ∧ s.rail.width = .narrow) ∧
    (let s := { anchored with rail := { anchored.rail with width := .wide, caps := { Captures.blank with
       lead := { firstFall := some (-2048), lastRise := none, low := some true, sawLow := true } } } }
     s.running = true ∧ s.modes.mode ≠ .listen ∧ s.rail.caps.lead.firstFall = some (-2048) ∧
      s.rail.caps.lead.low = some true ∧ s.rail.width = .wide) ∧
    (let s := { anchored with rail := { anchored.rail with caps := { Captures.blank with
       lead := { firstFall := some 0, lastRise := none, low := some false, sawLow := false } } } }
     s.running = true ∧ s.modes.mode ≠ .listen ∧ s.rail.caps.lead.low ≠ some true ∧
      s.rail.caps.lead.lastRise = none) ∧
    anchored.rail.caps.lead.firstFall = none := by decide

/-- `anchored` or `tracking` at a multiframe close with a candidate. -/
def marked (s : State) (k run backoff : Nat) : State :=
  { s with
    ftu := { s.ftu with officeIndex := 7 }
    rail := { s.rail with markSet := [k], markCand := some k, markRun := run, backoff := backoff } }

/-- A HOLD, TRACK or ANCHOR station at a multiframe close: the candidate shown; another index lower; a mark in
the index-7 frame itself; and none shown. Then the other closes, and the lengths of the list of stamps. -/
theorem witness_Relabel :
    (∀ s ∈ [marked anchored 3 3 0, marked anchored 4 3 0, marked anchored 4 3 1, marked anchored 5 4 0,
        marked tracking 7 1 64, marked tracking 1 0 128, marked holding 2 3 0],
      s.running = true ∧ s.modes.mode ≠ .listen ∧ s.rail.width = .narrow ∧ s.ftu.officeIndex = 7 ∧
        (∀ k ∈ s.rail.markSet, 1 ≤ k ∧ k ≤ 7) ∧
        ∃ k ∈ [1, 2, 3, 4, 5, 7], s.rail.markCand = some k ∧ k ∈ s.rail.markSet) ∧
    (let s := { marked anchored 3 3 0 with rail := { anchored.rail with markSet := [2, 5], markCand := some 3 } }
     s.rail.markCand = some 3 ∧ 3 ∉ s.rail.markSet ∧ 2 ∈ s.rail.markSet ∧ ∀ j ∈ s.rail.markSet, 2 ≤ j) ∧
    (let s := { marked anchored 3 3 0 with rail := { anchored.rail with
       caps := { Captures.blank with gradeStart := some 175 } } }
     s.rail.markSet = [] ∧ s.rail.markCand = none ∧ s.rail.caps.gradeStart = some 175 ∧
      s.rail.caps.markBroken = false ∧ (175 : Int) + 80 ≤ 255) ∧
    (let s := { marked anchored 3 3 0 with rail := { anchored.rail with
       caps := { Captures.blank with gradeStart := some 176 } } }
     s.rail.markSet = [] ∧ ¬ (176 : Int) + 80 ≤ 255) ∧
    (anchored.modes.mode ≠ .listen ∧ anchored.rail.width = .narrow ∧ anchored.ftu.officeIndex ≠ 7 ∧
      ∀ k ∈ anchored.rail.markSet, 1 ≤ k ∧ k ≤ 7) ∧
    (let s := { anchored with rail := { anchored.rail with width := .wide } }
     s.running = true ∧ s.modes.mode ≠ .listen ∧ s.rail.width ≠ .narrow) ∧
    (station.running = true ∧ station.modes.mode = .listen) ∧
    station.rail.relabelStamps.length ≤ 7 ∧
    (List.replicate 8 (⟨0, 0⟩ : Stamp)) = ⟨0, 0⟩ :: List.replicate 7 ⟨0, 0⟩ ∧
    (List.replicate 7 (⟨0, 0⟩ : Stamp)).length = 7 := by decide

theorem witness_RailRangesKept : (marked tracking 7 1 128).rail.Ranges ∧
    ∃ u, step (marked tracking 7 1 128) = .next u := by
  refine ⟨⟨by decide, ?_, by decide, by decide, ?_, by decide, by decide, by decide⟩, _, rfl⟩
  · intro e h; cases h
  · intro k h; cases h; decide

/-! Joining and withdrawal -/

theorem witness_EjRise :
    (anchored.running = true ∧ anchored.listen.phase ≠ .joinPending) ∧
    (let s := { station with listen := { Listen.reset with phase := .joinPending } }
     s.running = true ∧ s.listen.phase = .joinPending) := by decide

/-- A joined station, one in the join frame and one in LISTEN, each with a request. -/
theorem witness_WithdrawalTaken :
    (∃ s : State, s.running = true ∧ s.ModeLaw ∧ s.listen.withdrawRequest = true ∧ s.modes.mode ≠ .listen) ∧
    (∃ s : State, s.running = true ∧ s.ModeLaw ∧ s.listen.withdrawRequest = true ∧
      s.listen.phase = .joinFrame) ∧
    (∃ s : State, s.running = true ∧ s.ModeLaw ∧ s.listen.withdrawRequest = true ∧
      s.modes.mode = .listen) := by
  refine ⟨⟨{ anchored with listen := { Listen.reset with withdrawRequest := true } }, rfl, ?_, rfl,
    by decide⟩, ⟨_, rfl, listening_modeLaw { Listen.reset with withdrawRequest := true, phase := .joinFrame }
      none (by decide) (by decide) (by decide), rfl, rfl⟩,
    ⟨_, rfl, listening_modeLaw { Listen.reset with withdrawRequest := true } none (by decide) (by decide)
      (by decide), rfl, rfl⟩⟩
  exact {
    anchor := by decide
    qualified := by intro r; cases r <;> decide
    listening := by decide
    grade := fun _ => ⟨7, by decide⟩
    phase := by decide
    request := by decide
    withdrawn := by decide
    noJoin := by decide
    drive := by decide
    reset := by decide }

theorem witness_WithdrawalEnds : ∃ s : State, s.running = true ∧ s.ModeLaw ∧ s.listen.withdrawn = true ∧
    s.listen.withdrawRequest = false :=
  ⟨_, rfl, listening_modeLaw { Listen.reset with withdrawn := true } none (by decide) (by decide)
    (by decide), rfl, rfl⟩

theorem witness_ListenProcedure :
    (let x := { Listen.reset with
       frameCount := 1024, runCount := 16, silentRun := 16, markCount := 2, runMidpoint := some 100,
       markIndex := some 3 }
     x.frameCount ≤ 1024 ∧ x.runCount ≤ 16 ∧ x.silentRun ≤ 16 ∧ x.markCount ≤ 2 ∧
      x.runMidpoint = some 100 ∧ 108 ≤ 100 + 8 ∧ 100 ≤ 108 + 8 ∧ 100 + 8 < 109 ∧ x.markIndex = some 3) ∧
    (let x := { Listen.reset with runCount := 15, silentRun := 15, frameCount := 1024 }
     x.withdrawRequest = false ∧ x.runCount < 16 ∧ x.silentRun < 16 ∧ 1024 ≤ x.frameCount) ∧
    ({ Listen.reset with runCount := 15, silentRun := 16 }).silentRun = 16 ∧
    (let s := { station with rail := { Rail.reset with
       held := some { caps := Captures.blank, length := 4096, index := 0 } } }
     s.running = true ∧ s.modes.mode = .listen ∧ s.listen.phase = .running ∧ s.listen.withdrawn = false ∧
      s.rail.held = some { caps := Captures.blank, length := 4096, index := 0 }) ∧
    (let c : LineCapture := { firstFall := some 4000, lastRise := none, low := some true, sawLow := true }
     c.firstFall = some 4000 ∧ c.low = some true ∧
      { c with low := some false, lastRise := some 4032 }.low = some false ∧
      { c with low := some false, lastRise := some 4032 }.lastRise = some 4032 ∧
      { c with firstFall := none }.firstFall = none) ∧
    (station.running = true ∧ station.modes.mode = .listen ∧ station.rail.held = none) ∧
    (let x := { Listen.reset with runCount := 16, latestMidpoint := some 7 }
     x.decision = some (7, false) ∧ Listen.reset.decision = none) ∧
    (let s := { joining with rail := { Rail.reset with
       held := some { caps := heardGrade 6, length := 4096, index := 0 } } }
     s.running = true ∧ s.modes.mode = .listen ∧ s.listen.phase ≠ .running ∧
      s.rail.held = some { caps := heardGrade 6, length := 4096, index := 0 }) ∧
    (joining.listen.phase ≠ .running ∧ { Listen.reset with withdrawn := true }.withdrawn = true) ∧
    (listening.running = true ∧ listening.rail.listenWindow = true ∧ listening.modes.mode = .listen ∧
      listening.listen.withdrawRequest = false ∧ listening.listen.phase ≠ .joinFrame ∧
      listening.listen.withdrawn = false ∧ listening.ftu.joinRequest = none) ∧
    (anchored.running = true ∧ anchored.rail.listenWindow = false) := by decide

theorem witness_JoinFrame :
    (∃ s : State, s.running = true ∧ s.ModeLaw ∧ s.ftu.joinRequest = some 4095) ∧
    (let s := { joining with listen := { joining.listen with markCount := 2, markIndex := some 5 } }
     s.running = true ∧ s.modes.mode = .listen ∧ s.listen.phase = .joinFrame ∧ s.listen.markCount = 2 ∧
      s.listen.markIndex = some 5) ∧
    (joining.listen.phase = .joinFrame ∧ joining.listen.markCount < 2) :=
  ⟨⟨_, rfl, listening_modeLaw { Listen.reset with phase := .joinPending, offset := some 4095 } (some 4095)
    (by decide) (by decide) (by decide), rfl⟩, by decide, by decide⟩

/-- A joining station with the monitors given meets the premises of Join. -/
theorem join_premises (a b : Monitor) :
    ∃ s : State, s.running = true ∧ s.ModeLaw ∧ s.listen.phase = .joinFrame ∧
      s.listen.withdrawRequest = false ∧ s.monitor .refA = a ∧ s.monitor .refB = b ∧ s.straps = straps := by
  refine ⟨{ joining with monA := a, monB := b }, rfl, ?_, rfl, rfl, rfl, rfl, rfl⟩
  exact {
    anchor := by simp [joining, station, State.reset, ModeMachine.reset, Selector.reset]
    qualified := fun r h => by cases h
    listening := fun _ => rfl
    grade := fun h => absurd rfl h
    phase := fun _ => rfl
    request := fun h => by cases h
    withdrawn := fun h => by cases h
    noJoin := fun h => by cases h
    drive := fun _ => ⟨rfl, rfl⟩
    reset := fun h => absurd h (by simp [joining, station, State.running]) }

/-- With no reference QUALIFIED, with REFA, and with REFB only. -/
theorem witness_Join :
    (∃ s : State, s.running = true ∧ s.ModeLaw ∧ s.listen.phase = .joinFrame ∧
      s.listen.withdrawRequest = false ∧ (s.monitor .refA).state ≠ .qualified ∧
      (s.monitor .refB).state ≠ .qualified) ∧
    (∃ s : State, s.running = true ∧ s.ModeLaw ∧ s.listen.phase = .joinFrame ∧
      s.listen.withdrawRequest = false ∧ (s.monitor .refA).state = .qualified ∧
      ¬ (s.straps.refClass .refB = some .classA ∧ s.straps.refClass .refA = some .classB)) ∧
    (∃ s : State, s.running = true ∧ s.ModeLaw ∧ s.listen.phase = .joinFrame ∧
      s.listen.withdrawRequest = false ∧ (s.monitor .refB).state = .qualified ∧
      (s.monitor .refA).state ≠ .qualified) := by
  refine ⟨?_, ?_, ?_⟩
  · obtain ⟨s, h1, h2, h3, h4, h5, h6, -⟩ := join_premises Monitor.reset Monitor.reset
    exact ⟨s, h1, h2, h3, h4, by rw [h5]; decide, by rw [h6]; decide⟩
  · obtain ⟨s, h1, h2, h3, h4, h5, h6, h7⟩ := join_premises goodMonitor goodMonitor
    exact ⟨s, h1, h2, h3, h4, by rw [h5]; rfl, by rw [h7]; decide⟩
  · obtain ⟨s, h1, h2, h3, h4, h5, h6, -⟩ := join_premises Monitor.reset goodMonitor
    exact ⟨s, h1, h2, h3, h4, by rw [h6]; rfl, by rw [h5]; decide⟩

/-! Maintenance -/

/-- A station at a page counter and a page sequence. -/
def page (p : BitVec 7) (q : Octet) : State :=
  { station with maint := { Maint.reset with pageCounter := p, pageSeq := q } }

/-- Tributary 2 is about to start a repeat slip, at a boundary that begins a page or at another. -/
def slipping (p : BitVec 7) : State :=
  { stored (aligned 30 0 0) .normal 0 (some cell) [] with maint := { Maint.reset with pageCounter := p } }

/-- R50, R171: a repeat slip away from a page start raises SLIP. -/
theorem test_slip_raised :
    ((slipping 5).readoutTrib 0 2).flags.slip = { v := true, s := false, x := true } := by decide

/-- The frames of a page at the ends of its parts: the header, the summaries of tributaries 0 and 15, the
rotating detail; a boundary with a repeat slip and one without, at a page start and elsewhere. -/
theorem witness_PageBoundary :
    (∀ p ∈ [127, 5], let s := slipping p
     s.running = true ∧ s.maint.pageCounter = p ∧ s.enabled 2 = true ∧ (s.trib 2).rx.align = .aligned ∧
      (s.trib 2).storeState = .normal ∧ (s.trib 2).store.queue = []) ∧
    (¬ ∃ t, station.enabled t = true ∧ (station.trib t).rx.align = .aligned ∧
      (station.trib t).storeState = .normal ∧ (station.trib t).store.queue = []) ∧ FlagId.restart ≠ .slip ∧
    (station.running = true ∧ station.maint.pageCounter ≠ 127) ∧
    ((page 127 0).running = true ∧ (page 127 0).maint.pageCounter = 127) ∧
    (∀ x ∈ [(1, 0), (15, 0), (16, 0), (21, 0), (22, 1), (111, 15)],
      let s := page (BitVec.ofNat 7 (x.1 - 1)) 9
      s.running = true ∧ x.1 = (s.maint.pageCounter + 1).toNat ∧ 1 ≤ x.1 ∧ x.1 ≤ 111 ∧ x.2 = (x.1 - 16) / 6) ∧
    (∀ p ∈ [112, 113, 114, 115, 116, 117, 118, 119, 120, 121, 122, 123, 124, 125, 126, 127],
      let s := page (BitVec.ofNat 7 (p - 1)) 31
      s.running = true ∧ p = (s.maint.pageCounter + 1).toNat ∧ 1 ≤ p ∧ 112 ≤ p ∧
        (15 : TribId).val = s.maint.pageSeq.toNat % 16) := by decide

theorem witness_Acknowledge :
    (let s := { station with flags := { Flags.reset with dark := ⟨true, true, false⟩ } }
     s.running = true ∧ (s.flags.get .dark).s = true ∧ (s.flags.get .dark).x = false ∧
      (s.flags.get .slip).s = false) := by decide

theorem witness_AlarmLine :
    (∃ u, exec .resetAssertion anchored = .next u) ∧ State.reset.running = false ∧
    (∃ u, exec (.resetRelease straps false) State.reset = .next u) := ⟨⟨_, rfl⟩, rfl, ⟨_, rfl⟩⟩

theorem witness_RaisedAreSetKept :
    (full.raise .slip).flags.RaisedAreSet ∧ ∃ u, step (full.raise .slip) = .next u := by
  refine ⟨?_, _, rfl⟩
  intro f
  cases f <;> decide

theorem witness_OfficeBit :
    station.running = true ∧ 255 ≤ 255 ∧ joining.running = true ∧ joining.listen.phase = .joinFrame := by
  decide

/-- A tick with the pins given, and an edge of tributary 2. -/
def tickInput (f : InPins → InPins) : TickInput :=
  { pins := f { InPins.reset with rstn := true }, edges := [(2, true)] }

theorem witness_TickFindsEvents :
    (station.pending = [] ∧ station.inputs = [] ∧ station.railDue = false ∧ station.running = true ∧
      station.pins.rstn = true) ∧
    (let i := tickInput fun p => { p with ej := true, refA := true, mak := true }
     let s := { station with
       inputs := [i]
       monA := { Monitor.reset with highTicks := 7, activity := some 1 }
       maint := { Maint.reset with makArmed := true, makHigh := 7 }
       listen := { Listen.reset with ejSampled := true } }
     s.inputs.head? = some i ∧ i.pins.rstn = true ∧ (2, true) ∈ i.edges ∧
      ((s.monitor .refA).state ≠ .absent ∧ i.pins.refA = true ∧ (s.monitor .refA).armed = true ∧
        (s.monitor .refA).highTicks = 7 ∧ (s.monitor .refA).activity = some 1) ∧
      (i.pins.mak = true ∧ s.maint.makArmed = true ∧ s.maint.makHigh = 7) ∧
      (s.listen.ejSampled = true ∧ s.pins.ej = false ∧ i.pins.ej = true)) ∧
    (let s := { station with monA := { Monitor.reset with activity := some 1 } }
     (s.monitor .refA).activity = some 1 ∧ s.pins.refA = false) ∧
    ((refA station { Monitor.reset with state := .absent }).monitor .refA).state = .absent ∧
    (let s := ftuIs station fun f => { f with tick := 4095 }
     s.ftu.length = s.ftu.tick + 1) ∧
    (let s := ftuIs station fun f => { f with tick := 2046 }
     s.ftu.tick = 2046 ∧ s.ftu.tick + 1 < s.ftu.length) ∧
    (fourTribs.enabled 4 = false ∧ fourTribs.enabled 3 = true) ∧
    (let i := tickInput fun p => { p with rstn := false }
     let s := { station with inputs := [i] }
     s.pending = [] ∧ s.railDue = false ∧ s.inputs.head? = some i ∧ s.running = true ∧ i.pins.rstn = false) ∧
    (State.reset.pending = [] ∧ State.reset.railDue = false ∧ State.reset.running = false ∧
      State.reset.pins.rstn = false) ∧
    (let i := tickInput fun p => { p with ej := true }
     let s := { State.reset with inputs := [i] }
     s.inputs.head? = some i ∧ s.running = false ∧ i.pins.rstn = true ∧ (2, true) ∈ i.edges) ∧
    (let s := withRx { searching with darkTimer := some 1 }
     s.enabled 2 = true ∧ (s.trib 2).rx.darkTimer = some 1) ∧
    (after .gradeStart anchored).rail.pulses.get .grade = some (14107 + 448) ∧
    (anchored.linePosition .beat 255 = some 255 ∧ anchored.linePosition .beat 256 = none) ∧
    { station with railDue := true }.railDue = true := by decide

end Sys2Proof.Machine.Test
end

section
/-! PROOFS. The assertion of RSTn, and the tributary receivers (chapter 01): one edge of LCKt by its occasion,
the dark entry and the completion of a frame. -/

namespace Sys2Proof.Machine

/-- Settles O6: the assertion puts every block at its reset values. -/
theorem resetAssertionClears : Obligations.ResetAssertionClears := by
  intro s
  refine ⟨s.resetBlocks, rfl, rfl, rfl, ?tribs, rfl, rfl, rfl, rfl, rfl, rfl, rfl, rfl, rfl, rfl, rfl, rfl, rfl,
    rfl, ?monitors, rfl, rfl, rfl, rfl, rfl, rfl, rfl, rfl, rfl, rfl, rfl, rfl, rfl, rfl, ?lines, rfl, rfl, ?flags,
    rfl, rfl, rfl, rfl, rfl⟩
  case tribs =>
    intro t
    have h : s.resetBlocks.trib t = Trib.reset := by simp [State.resetBlocks, State.reset, State.trib]
    simp only [State.holdings, h]
    exact ⟨rfl, rfl, rfl, rfl, rfl, rfl, rfl, rfl, rfl, rfl, rfl, rfl, rfl, rfl, rfl, rfl⟩
  case monitors => intro r; cases r <;> rfl
  case lines => intro line; cases line <;> exact ⟨rfl, rfl, rfl⟩
  case flags => intro f; cases f <;> rfl

/-! The six rows that deliver a bit (R3) -/

/-- An edge named by an occasion acts as the edge that the state shows (R3). -/
theorem State.lineEdge_of_kind {s : State} {t : TribId} {b : Bool} {k : EdgeKind} (h : s.edgeKind t b = k) :
    s.lineEdge t b = s.takeEdge t b k := by rw [State.lineEdge, h]

/-- A command that names an occasion is the edge, whether or not the state shows that occasion. -/
theorem State.namedEdge (s : State) (t : TribId) (b : Bool) (k : EdgeKind) :
    (if s.edgeKind t b = k then s.takeEdge t b k else s.lineEdge t b) = s.lineEdge t b := by
  split
  · rename_i h; exact (State.lineEdge_of_kind h).symm
  · rfl

theorem exec_leaveDark_eq (s : State) (t : TribId) (b : Bool) :
    exec (.leaveDark t b) s = exec (.lineClockEdge t b) s := congrArg _ (s.namedEdge t b .leaveDark)

theorem exec_candidate_eq (s : State) (t : TribId) (b : Bool) :
    exec (.candidate t b) s = exec (.lineClockEdge t b) s := congrArg _ (s.namedEdge t b .candidate)

theorem exec_verifyCheck_eq (s : State) (t : TribId) (b : Bool) :
    exec (.verifyCheck t b) s = exec (.lineClockEdge t b) s := congrArg _ (s.namedEdge t b .verifyCheck)

theorem exec_syncOctetCheck_eq (s : State) (t : TribId) (b : Bool) :
    exec (.syncOctetCheck t b) s = exec (.lineClockEdge t b) s := congrArg _ (s.namedEdge t b .syncCheck)

theorem exec_frameCompletion_eq (s : State) (t : TribId) (b : Bool) :
    exec (.frameCompletion t b) s = exec (.lineClockEdge t b) s := congrArg _ (s.namedEdge t b .completion)

/-- Settles O8. -/
theorem edgesAgree : Obligations.EdgesAgree := fun s t b =>
  ⟨exec_leaveDark_eq s t b, exec_candidate_eq s t b, exec_verifyCheck_eq s t b, exec_syncOctetCheck_eq s t b,
    exec_frameCompletion_eq s t b⟩

/-- A disabled tributary takes no edge (R1). -/
theorem State.lineEdge_disabled {s : State} {t : TribId} (b : Bool) (h : s.enabled t = false) :
    s.lineEdge t b = s :=
  State.lineEdge_of_kind (k := .ignored) (by simp [State.edgeKind, h])

/-- Settles O9. -/
theorem noOccasion : Obligations.NoOccasion := by
  refine ⟨fun s t b he => ⟨?edge, ?disabled⟩, fun s t hd => ?dark, fun s p ej hr => ?release⟩
  case edge => exact congrArg _ (State.lineEdge_disabled b he)
  case disabled => simp [exec, execDarkEntry, he]
  case dark => simp [exec, execDarkEntry, hd]
  case release => simp [exec, execResetRelease, hr]

/-- An edge at a station out of reset and an enabled tributary acts by the receiver's record (R3). -/
theorem exec_lineClockEdge {s : State} {t : TribId} {b : Bool} {k : EdgeKind} (hr : s.running = true)
    (he : s.enabled t = true) (hk : (s.trib t).rx.edgeKind b = k) :
    exec (.lineClockEdge t b) s = .next (s.takeEdge t b k) :=
  congrArg Host.Outcome.next (State.lineEdge_of_kind (by simp [State.edgeKind, hr, he, hk]))

/-! The occasion of an edge, by the receiver's record -/

theorem Receiver.edgeKind_dark {x : Receiver} (b : Bool) (h : x.align = .dark) : x.edgeKind b = .leaveDark := by
  simp [Receiver.edgeKind, h]

theorem Receiver.edgeKind_search {x : Receiver} (b : Bool) (h : x.align = .search) :
    x.edgeKind b = if windowMatches (pushWindow x.window b) then .candidate else .search := by
  simp [Receiver.edgeKind, h]

theorem Receiver.edgeKind_verify {x : Receiver} (b : Bool) (h : x.align = .verify) :
    x.edgeKind b = if x.countdown ≤ 1 then .verifyCheck else .verify := by
  simp [Receiver.edgeKind, h]

theorem Receiver.edgeKind_aligned {x : Receiver} (b : Bool) (h : x.align = .aligned) :
    x.edgeKind b =
      if x.bitPos.toNat < 7 then .sync
      else if x.bitPos.toNat = 7 then .syncCheck
      else if x.bitPos.toNat < 255 then .payload
      else .completion := by
  simp [Receiver.edgeKind, h]

/-- Settles O10. -/
theorem leaveDark : Obligations.LeaveDark := by
  intro s t b hr he hd
  have hk := Receiver.edgeKind_dark b hd
  rw [exec_leaveDark_eq]
  exact exec_lineClockEdge hr he hk

/-! The search window (R9) -/

theorem pushWindow_short {w : List Bool} (b : Bool) (h : w.length < 7) : pushWindow w b = w ++ [b] := by
  have hz : w.length - 7 = 0 := by omega
  simp [pushWindow, hz]

/-- Fewer than eight bits are not tested. -/
theorem windowMatches_short {w : List Bool} (h : w.length < 8) : windowMatches w = false := by
  have : w.length ≠ 8 := by omega
  simp [windowMatches, this]

/-- The window keeps the seven newest bits beside the bit that comes. -/
theorem pushWindow_full (old last : List Bool) (b : Bool) (h : last.length = 7) :
    pushWindow (old ++ last) b = last ++ [b] := by
  have hl : (old ++ last ++ [b]).length - 8 = old.length := by simp [h]
  rw [pushWindow, hl, List.append_assoc, List.drop_left]

theorem windowMatches_eight (b1 b2 b3 b4 b5 b6 b7 b : Bool) :
    windowMatches [b1, b2, b3, b4, b5, b6, b7, b] = decide ([b1, b2, b3, b4] = [true, false, true, true]) := by
  revert b1 b2 b3 b4 b5 b6 b7 b; decide

/-- The octet of a window that begins 1, 0, 1, 1 (R8). -/
theorem octetOf_pattern (b5 b6 b7 b : Bool) :
    octetOf [true, false, true, true, b5, b6, b7, b] =
      0b1011#4 ++ BitVec.ofBool b5 ++ BitVec.ofBool b6 ++ BitVec.ofBool b7 ++ BitVec.ofBool b := by
  revert b5 b6 b7 b; decide

theorem octetIndex_bits (b5 b6 b7 b : Bool) :
    octetIndex (0b1011#4 ++ BitVec.ofBool b5 ++ BitVec.ofBool b6 ++ BitVec.ofBool b7 ++ BitVec.ofBool b) =
      BitVec.ofBool b5 ++ BitVec.ofBool b6 ++ BitVec.ofBool b7 := by
  revert b5 b6 b7 b; decide

/-- Settles O11: the window's length decides whether there is a test, its first four bits whether it is good. -/
theorem searchAndCandidate : Obligations.SearchAndCandidate := by
  intro s t b hr he hs
  have hk := Receiver.edgeKind_search b hs
  refine ⟨fun hw => ?short, fun old b1 b2 b3 b4 b5 b6 b7 hw => ⟨fun hn => ?plain, fun hm => ?candidate⟩⟩
  case short =>
    have hp := pushWindow_short b hw
    have hm : windowMatches ((s.trib t).rx.window ++ [b]) = false := windowMatches_short (by simp; omega)
    rw [hp, hm] at hk
    refine (exec_lineClockEdge hr he hk).trans ?_
    simp [State.takeEdge, State.takeSearchBit, State.modRx, Receiver.searchBit, Receiver.reload, hp,
      Config.darkTicks]
  case plain =>
    have hp : pushWindow (s.trib t).rx.window b = [b1, b2, b3, b4, b5, b6, b7, b] := by
      rw [hw, pushWindow_full old _ b rfl]; rfl
    rw [hp, windowMatches_eight, decide_eq_false hn] at hk
    refine (exec_lineClockEdge hr he hk).trans ?_
    simp [State.takeEdge, State.takeSearchBit, State.modRx, Receiver.searchBit, Receiver.reload, hp,
      Config.darkTicks]
  case candidate =>
    have hp : pushWindow (s.trib t).rx.window b = [b1, b2, b3, b4, b5, b6, b7, b] := by
      rw [hw, pushWindow_full old _ b rfl]; rfl
    rw [hp, windowMatches_eight, decide_eq_true hm] at hk
    obtain ⟨rfl, rfl, rfl, rfl⟩ : b1 = true ∧ b2 = false ∧ b3 = true ∧ b4 = true := by simpa using hm
    rw [exec_candidate_eq]
    refine (exec_lineClockEdge hr he hk).trans ?_
    simp only [if_true, State.takeEdge, State.takeCandidate, State.modRx, Receiver.candidate, Receiver.reload, hp,
      octetOf_pattern, octetIndex_bits, Config.darkTicks]

/-! The octet under check (R8, R10, R12) -/

/-- A bit joins an octet from below. -/
theorem pushBit_eq (o : Octet) (b : Bool) : pushBit o b = (o <<< 1) ||| (if b then 1#8 else 0#8) := by
  cases b <;> rfl

/-- The three readings of a good octet (R8). -/
theorem goodOctet_iff (o : Octet) (k : BitVec 3) :
    goodOctet o k = true ↔ o.extractLsb' 4 4 = 0b1011#4 ∧ o.extractLsb' 1 3 = k := by
  simp [goodOctet, patternMatch, octetIndex]

theorem goodOctet_false_iff (o : Octet) (k : BitVec 3) :
    goodOctet o k = false ↔ ¬ (o.extractLsb' 4 4 = 0b1011#4 ∧ o.extractLsb' 1 3 = k) := by
  rw [← goodOctet_iff, Bool.not_eq_true]

/-- Entry to ALIGNED moves an IDLE store to PRIME and leaves every other store state (R46). -/
theorem State.primeStore_eq (s : State) (t : TribId) :
    s.primeStore t = s.setTrib t { s.trib t with
      storeState := if (s.trib t).storeState = .idle then .prime else (s.trib t).storeState } := by
  unfold State.primeStore
  split
  · rfl
  · exact (s.setTrib_trib t).symm

theorem Receiver.verifyIndex_eq (x : Receiver) :
    x.verifyIndex = x.candIndex + (match x.verifyStep with | .first => 1#3 | .second => 2#3) := by
  unfold Receiver.verifyIndex
  cases x.verifyStep <;> rfl

/-- Entry to ALIGNED in three steps: the receiver's fields, the cell request, PRIME (R11, R33, R46). -/
theorem State.takeEntry_eq {s v : State} {t : TribId} {b : Bool}
    (hv : v = (s.modRx t fun x => x.enterAligned b).cellRequest t) :
    s.takeEntry t b = v.setTrib t { v.trib t with
      storeState := if (s.trib t).storeState = .idle then .prime else (s.trib t).storeState } := by
  have h : (v.trib t).storeState = (s.trib t).storeState := by simp [hv, State.modRx]
  rw [State.takeEntry, ← hv, State.primeStore_eq, h]

/-- Settles O12. -/
theorem verifyCheck : Obligations.VerifyCheck := by
  rintro s t b o hr he hv hc rfl
  have hk : (s.trib t).rx.edgeKind b = .verifyCheck := by rw [Receiver.edgeKind_verify b hv, hc]; rfl
  have edge : exec (.verifyCheck t b) s = .next (s.takeVerifyCheck t b) := by
    rw [exec_verifyCheck_eq, exec_lineClockEdge hr he hk, State.takeEdge]
  have good : (s.trib t).rx.verifyGood b = goodOctet _ (s.trib t).rx.verifyIndex :=
    congrArg (goodOctet · _) (pushBit_eq _ b)
  rw [edge, ← pushBit_eq]
  refine ⟨fun hf hp hi => ?first, fun hs hp hi => ?second, fun hn => ?bad⟩
  case first =>
    have hg : (s.trib t).rx.verifyGood b = true := by
      rw [good, goodOctet_iff, ← pushBit_eq, Receiver.verifyIndex_eq, hf]; exact ⟨hp, hi⟩
    simp only [State.takeVerifyCheck, hg, if_true, hf]
    rfl
  case second =>
    have hg : (s.trib t).rx.verifyGood b = true := by
      rw [good, goodOctet_iff, ← pushBit_eq, Receiver.verifyIndex_eq, hs]; exact ⟨hp, hi⟩
    have enter : s.takeVerifyCheck t b = s.takeEntry t b := by
      simp only [State.takeVerifyCheck, hg, if_true, hs]
    obtain ⟨v, hv⟩ : ∃ v, v = (s.modRx t fun x => x.enterAligned b).cellRequest t := ⟨_, rfl⟩
    exact ⟨v, _, congrArg _ (enter.trans (State.takeEntry_eq hv)), hv, rfl⟩
  case bad =>
    have hg : (s.trib t).rx.verifyGood b = false := by
      rw [good, goodOctet_false_iff, ← pushBit_eq, Receiver.verifyIndex_eq, not_and_or]; exact hn
    simp only [State.takeVerifyCheck, hg]
    rfl

/-! Payload bits (R12) -/

/-- A bit is written in its place, and no other bit of the cell changes. -/
theorem writePayload_getLsbD (p : Payload) (pos : Nat) (b : Bool) (hp : 8 ≤ pos) (hq : pos ≤ 255) (j : Nat)
    (hj : j < 248) :
    (writePayload p pos b).getLsbD j = if j = 255 - pos then b else p.getLsbD j := by
  have hm : (1#248 <<< (255 - pos)).getLsbD j = decide (j = 255 - pos) := by
    rw [Bool.eq_iff_iff]
    simp only [BitVec.getLsbD_shiftLeft, BitVec.getLsbD_one, Bool.and_eq_true, Bool.not_eq_true',
      decide_eq_true_eq, decide_eq_false_iff_not]
    omega
  unfold writePayload
  cases b
  · simp only [Bool.false_eq_true, if_false, BitVec.getLsbD_and, BitVec.getLsbD_not, hm, hj]
    split <;> simp [*]
  · simp only [if_true, BitVec.getLsbD_or, hm]
    split <;> simp [*]

/-- Settles O13. -/
theorem plainEdges : Obligations.PlainEdges := by
  intro s t b hr he
  rw [← pushBit_eq]
  refine ⟨fun hv hc => ?verify, fun ha hp => ?sync, fun p ha h8 h255 hf => ?payload⟩
  case verify =>
    have hk : (s.trib t).rx.edgeKind b = .verify := by
      rw [Receiver.edgeKind_verify b hv, if_neg (by omega)]
    exact exec_lineClockEdge hr he hk
  case sync =>
    have hk : (s.trib t).rx.edgeKind b = .sync := by
      rw [Receiver.edgeKind_aligned b ha, if_pos (by simpa [BitVec.lt_def] using hp)]
    exact exec_lineClockEdge hr he hk
  case payload =>
    have g8 : 8 ≤ (s.trib t).rx.bitPos.toNat := by simpa [BitVec.le_def] using h8
    have g255 : (s.trib t).rx.bitPos.toNat < 255 := by simpa [BitVec.lt_def] using h255
    have hk : (s.trib t).rx.edgeKind b = .payload := by
      rw [Receiver.edgeKind_aligned b ha, if_neg (by omega), if_neg (by omega), if_pos g255]
    refine ⟨writePayload p (s.trib t).rx.bitPos.toNat b, (exec_lineClockEdge hr he hk).trans ?_, fun k h1 h2 => ?_⟩
    · simp [State.takeEdge, State.takePayloadBit, State.writeBit, State.modStore, State.modRx, hf,
        Receiver.payloadBit, Receiver.reload, Config.darkTicks]
    · rw [writePayload_getLsbD p _ b g8 (by omega) _ (by omega)]
      congr 1
      simp only [eq_iff_iff]
      omega

/-! The sync octet check (R13, R14) -/

/-- Settles O14. -/
theorem syncOctetCheck : Obligations.SyncOctetCheck := by
  rintro s t b o hr he ha hp rfl
  have hk : (s.trib t).rx.edgeKind b = .syncCheck := by rw [Receiver.edgeKind_aligned b ha, hp]; rfl
  have edge : exec (.syncOctetCheck t b) s = .next (s.takeSyncCheck t b) := by
    rw [exec_syncOctetCheck_eq, exec_lineClockEdge hr he hk, State.takeEdge]
  have good : (s.trib t).rx.syncGood b = goodOctet _ (s.trib t).rx.expected :=
    congrArg (goodOctet · _) (pushBit_eq _ b)
  rw [edge, ← goodOctet_iff, ← good, ← pushBit_eq]
  refine ⟨fun hg => ?good, fun hg => ⟨fun hrun => ?bad, fun hrun hf => ?lost⟩⟩
  case good =>
    simp [State.takeSyncCheck, State.modRx, Receiver.syncCheck, Receiver.nextBadRun, hg, Receiver.octetWith,
      Receiver.reload, hp, Config.darkTicks, octetM]
  case bad =>
    have hn : (s.trib t).rx.badRun ≠ 3 := by omega
    simp [State.takeSyncCheck, State.modRx, Receiver.syncCheck, Receiver.nextBadRun, hg, Receiver.octetWith,
      Receiver.reload, hp, Config.darkTicks, octetM, hn]
  case lost =>
    obtain ⟨p, hf⟩ := Option.isSome_iff_exists.mp hf
    simp [State.takeSyncCheck, State.modRx, Receiver.syncCheck, Receiver.nextBadRun, hg, Receiver.octetWith,
      Receiver.reload, hp, Config.darkTicks, octetM, hrun, State.loseAlignment, Receiver.loseAlignment,
      State.releaseFilling, hf, State.modStore, State.modRecord, Record.alignLoss]
    rfl

/-- Whatever state it leaves, a dark entry stops the timer and keeps the last sync octet (R5). -/
theorem Receiver.darkEntry_fields (x : Receiver) :
    x.darkEntry.align = .dark ∧ x.darkEntry.darkTimer = none ∧ x.darkEntry.lastSync = x.lastSync := by
  unfold Receiver.darkEntry
  cases x.align <;> exact ⟨rfl, rfl, rfl⟩

/-- Settles O15: the filling cell, if there is one, goes back to the free list; the rest goes by the state left. -/
theorem darkEntry : Obligations.DarkEntry := by
  intro s t hr he hd
  have entry : exec (.darkEntry t) s = .next (s.takeDarkEntry t) := by
    simp [exec, execDarkEntry, hr, he, hd]
  obtain ⟨dark, timer, sync⟩ := (s.trib t).rx.darkEntry_fields
  refine ⟨s.takeDarkEntry t, (s.trib t).rx.darkEntry, entry, ?state, dark, timer, sync, fun ha => ?search,
    fun ha => ?aligned⟩
  case state =>
    cases hf : (s.trib t).store.filling with
    | none =>
      have keep : { (s.trib t).store with filling := none } = (s.trib t).store := by rw [← hf]
      simp [State.takeDarkEntry, State.modRx, State.releaseFilling, hf, State.modRecord, Record.darkEntry, keep]
      rfl
    | some p =>
      simp [State.takeDarkEntry, State.modRx, State.releaseFilling, hf, State.modStore, State.modRecord,
        Record.darkEntry]
      rfl
  case search => simp [Receiver.darkEntry, ha]
  case aligned => simp [Receiver.darkEntry, ha]

/-- The completion of a frame where the queue has room (R34, R36). -/
theorem State.completeFrame_room {s : State} {t : TribId} {p : Payload} (m : Bool)
    (hf : (s.trib t).store.filling = some p) (hq : (s.trib t).store.queue.length ≠ s.straps.dep.value) :
    s.completeFrame t m = (s.setTrib t { s.trib t with
      store := { (s.trib t).store with
        filling := none, queue := (s.trib t).store.queue ++ [⟨p, m⟩] } }).cellRequest t := by
  simp [State.completeFrame, State.overflowCheck, State.depth, hq, State.appendFilled, hf, State.modStore]

/-- The completion of a frame where the queue is full: a delete slip first (R34, R35, R36, R41). -/
theorem State.completeFrame_full {s : State} {t : TribId} {p : Payload} (m : Bool)
    (hf : (s.trib t).store.filling = some p) (hq : (s.trib t).store.queue.length = s.straps.dep.value) :
    s.completeFrame t m = ((((s.setTrib t { s.trib t with
      store := { (s.trib t).store with
        filling := none, queue := (s.trib t).store.queue.drop s.straps.dep.deleted ++ [⟨p, m⟩] }
      record := (s.trib t).record.deleteSlip s.stamp s.straps.dep.deleted s.depth s.sharedFree }).setFree
        (s.free + s.straps.dep.deleted)).raise .slip).cellRequest t) := by
  simp [State.completeFrame, State.overflowCheck, State.depth, hq, State.deleteSlip, State.appendFilled, hf,
    State.modStore, State.modRecord]

/-- A payload bit moves the receiver's position and is written in the filling cell (R12). -/
theorem State.takePayloadBit_eq {s : State} {t : TribId} {p : Payload} (b : Bool)
    (h : (s.trib t).store.filling = some p) :
    s.takePayloadBit t b = s.setTrib t { s.trib t with
      rx := (s.trib t).rx.payloadBit
      store := { (s.trib t).store with filling := some (writePayload p (s.trib t).rx.bitPos.toNat b) } } := by
  simp [State.takePayloadBit, State.writeBit, State.modStore, State.modRx, h]

/-- A change of one tributary that keeps its holdings keeps the unmet floors (R23). -/
theorem State.unmet_setTrib {s : State} {t : TribId} {x : Trib}
    (h : x.store.holdings = (s.trib t).store.holdings) : (s.setTrib t x).unmet = s.unmet := by
  have hh : (s.setTrib t x).holdings = s.holdings := by
    funext v
    by_cases hv : v = t
    · subst hv; simp [State.holdings, h]
    · simp [State.holdings, hv]
  have he : (s.setTrib t x).enabledTribs = s.enabledTribs := rfl
  simp only [State.unmet, hh, he]

/-- Settles O16. -/
theorem frameCompletion : Obligations.FrameCompletion := by
  intro s t b p hr he ha hp hf
  have hk : (s.trib t).rx.edgeKind b = .completion := by rw [Receiver.edgeKind_aligned b ha, hp]; rfl
  have edge : exec (.frameCompletion t b) s = .next (s.takeCompletion t b) := by
    rw [exec_frameCompletion_eq, exec_lineClockEdge hr he hk, State.takeEdge]
  have bits := writePayload_getLsbD p 255 b (by omega) (by omega)
  have filled : s.takePayloadBit t b = s.setTrib t { s.trib t with
      rx := (s.trib t).rx.payloadBit
      store := { (s.trib t).store with filling := some (writePayload p 255 b) } } := by
    rw [State.takePayloadBit_eq b hf, hp]; rfl
  refine ⟨writePayload p 255 b, by simpa using bits 0 (by omega), fun j hj => ?same, fun hq => ?room,
    fun hq => ?full⟩
  case same =>
    by_cases hj' : j < 248
    · rw [bits j hj', if_neg (by omega)]
    · rw [BitVec.getLsbD_of_ge _ _ (by omega), BitVec.getLsbD_of_ge _ _ (by omega)]
  case room =>
    rw [edge, State.takeCompletion, filled, State.completeFrame_room (p := writePayload p 255 b) _ (by simp)
      (by simpa using hq)]
    simp [Receiver.payloadBit, Receiver.reload, hp, Config.darkTicks]
  case full =>
    have hu := State.unmet_setTrib (s := s) (t := t) (x := { s.trib t with
      rx := (s.trib t).rx.payloadBit
      store := { (s.trib t).store with filling := some (writePayload p 255 b) } }) (by simp [Store.holdings, hf])
    rw [edge, State.takeCompletion, filled, State.completeFrame_full (p := writePayload p 255 b) _ (by simp)
      (by simpa using hq), State.sharedFree, hu]
    simp only [State.trib_setTrib_same, State.setTrib_setTrib, State.setTrib_straps, State.setTrib_free]
    refine congrArg (fun x : State => Host.Outcome.next (x.cellRequest t)) ?_
    simp only [Receiver.payloadBit, Receiver.reload, hp, Config.darkTicks]
    rfl

end Sys2Proof.Machine
end

section
/-! PROOFS. The laws of the pool (R12, R22, R23, R25, R44): how one movement changes the counts of cells, what it
leaves of each tributary, and that every step keeps the law. -/

namespace Sys2Proof.Machine

/-! Counting cells (R22, R23) -/

/-- Two readings that differ at one member of a list without repeats alone. -/
theorem sum_map_change {l : List TribId} (hl : l.Nodup) {t : TribId} (ht : t ∈ l) {f g : TribId → Nat}
    (h : ∀ v, v ≠ t → f v = g v) : (l.map f).sum + g t = (l.map g).sum + f t := by
  have hm : (l.erase t).map f = (l.erase t).map g :=
    List.map_congr_left fun v hv => h v (hl.mem_erase_iff.mp hv).1
  rw [← List.sum_map_erase f ht, ← List.sum_map_erase g ht, hm]
  omega

theorem allTribs_nodup : allTribs.Nodup := by decide

/-- The cells that a tributary lacks to its floor: its part of U (R20, R23). -/
def State.owed (s : State) (t : TribId) : Nat := if s.enabled t then Config.floorCells - s.holdings t else 0

theorem State.unmet_eq_sum (s : State) : s.unmet = (allTribs.map s.owed).sum := by
  unfold State.unmet State.enabledTribs
  induction allTribs with
  | nil => rfl
  | cons t l ih => cases h : s.enabled t <;> simp [State.owed, h, ih]

theorem State.held_change {s u : State} (t : TribId) (h : ∀ v, v ≠ t → u.holdings v = s.holdings v) :
    u.held + s.holdings t = s.held + u.holdings t :=
  sum_map_change allTribs_nodup (allTribs_mem t) h

theorem State.enabled_of_straps {s u : State} (hs : u.straps = s.straps) (t : TribId) :
    u.enabled t = s.enabled t := by simp [State.enabled, hs]

theorem State.unmet_change {s u : State} (t : TribId) (hs : u.straps = s.straps)
    (h : ∀ v, v ≠ t → u.holdings v = s.holdings v) : u.unmet + s.owed t = s.unmet + u.owed t := by
  rw [State.unmet_eq_sum, State.unmet_eq_sum]
  exact sum_map_change allTribs_nodup (allTribs_mem t) fun v hv => by
    simp [State.owed, State.enabled_of_straps hs, h v hv]

/-- A tributary's part of U is at most the floor. -/
theorem State.owed_le_unmet (s : State) (t : TribId) : s.owed t ≤ s.unmet := by
  rw [State.unmet_eq_sum]
  exact List.le_sum_of_mem (List.mem_map_of_mem (allTribs_mem t))

/-- The part of the pool law that counts cells: 96 in all, and never fewer free than U (R22, R23). -/
structure State.Counted (s : State) : Prop where
  cells : s.free + s.held = Config.poolCells
  reserve : s.unmet ≤ s.free

theorem State.PoolLaw.counted {s : State} (L : s.PoolLaw) : s.Counted := ⟨L.cells, L.reserve⟩

/-- Cells counted the same, tributary by tributary. -/
theorem State.Counted.congr {s u : State} (c : s.Counted) (hs : u.straps = s.straps) (hf : u.free = s.free)
    (hh : ∀ v, u.holdings v = s.holdings v) : u.Counted := by
  have h1 : u.held = s.held := by rw [State.held, funext hh, State.held]
  have ho : u.owed = s.owed := funext fun v => by simp only [State.owed, State.enabled_of_straps hs, hh]
  have h2 : u.unmet = s.unmet := by rw [State.unmet_eq_sum, ho, State.unmet_eq_sum]
  exact ⟨by rw [hf, h1]; exact c.cells, by rw [hf, h2]; exact c.reserve⟩

/-- A movement between tributary t and the free list keeps the counts: cells go to the free list, or one comes
from it to a tributary under its floor or with a shared cell free. -/
theorem State.Counted.move {s u : State} (c : s.Counted) (t : TribId) (hs : u.straps = s.straps)
    (hh : ∀ v, v ≠ t → u.holdings v = s.holdings v) (hf : u.free + u.holdings t = s.free + s.holdings t)
    (hm : u.holdings t ≤ s.holdings t ∨
      u.holdings t = s.holdings t + 1 ∧ s.enabled t = true ∧ (s.holdings t < 3 ∨ s.unmet + 1 ≤ s.free)) :
    u.Counted := by
  have h1 := State.held_change t hh
  have h2 := State.unmet_change t hs hh
  have h3 := s.owed_le_unmet t
  have hc := c.cells
  have hr := c.reserve
  simp only [State.owed, State.enabled_of_straps hs, Config.floorCells] at h2 h3
  refine ⟨by omega, ?_⟩
  rcases hm with hm | ⟨hm, he, hm⟩
  · split at h2 <;> omega
  · simp only [he, if_true] at h2 h3
    omega

/-! What a change of one tributary's part does to its holdings -/

theorem State.holdings_modStore (s : State) (t v : TribId) (f : Store → Store) :
    (s.modStore t f).holdings v = if v = t then (f (s.trib t).store).holdings else s.holdings v := by
  unfold State.holdings
  rw [State.trib_modStore]
  split
  · rename_i h; rw [h]
  · rfl

@[simp] theorem State.holdings_modRx (s : State) (t v : TribId) (f : Receiver → Receiver) :
    (s.modRx t f).holdings v = s.holdings v := by
  unfold State.holdings
  rw [State.trib_modRx]
  split <;> rfl

@[simp] theorem State.holdings_modRecord (s : State) (t v : TribId) (f : Record → Record) :
    (s.modRecord t f).holdings v = s.holdings v := by
  unfold State.holdings
  rw [State.trib_modRecord]
  split <;> rfl

@[simp] theorem State.holdings_setStoreState (s : State) (t v : TribId) (x : StoreState) (n : Nat) :
    (s.setStoreState t x n).holdings v = s.holdings v := by
  unfold State.holdings
  rw [State.trib_setStoreState]
  split <;> rfl

@[simp] theorem State.holdings_setOutFrame (s : State) (t v : TribId) (f : BitVec 256) :
    (s.setOutFrame t f).holdings v = s.holdings v := by
  unfold State.holdings
  rw [State.trib_setOutFrame]
  split <;> rfl

@[simp] theorem State.holdings_setFree (s : State) (n : Nat) (v : TribId) :
    (s.setFree n).holdings v = s.holdings v := rfl

@[simp] theorem State.holdings_raise (s : State) (f : FlagId) (v : TribId) :
    (s.raise f).holdings v = s.holdings v := rfl

section
variable {s : State} (c : s.Counted) (t : TribId)
include c

theorem State.Counted.modRx (f : Receiver → Receiver) : (s.modRx t f).Counted :=
  c.congr rfl rfl fun v => by simp

theorem State.Counted.modRecord (f : Record → Record) : (s.modRecord t f).Counted :=
  c.congr rfl rfl fun v => by simp

theorem State.Counted.setStoreState (x : StoreState) (n : Nat) : (s.setStoreState t x n).Counted :=
  c.congr rfl rfl fun v => by simp

theorem State.Counted.setOutFrame (f : BitVec 256) : (s.setOutFrame t f).Counted :=
  c.congr rfl rfl fun v => by simp

theorem State.Counted.raise (f : FlagId) : (s.raise f).Counted := c.congr rfl rfl fun _ => rfl

/-- A change of what a tributary holds, with the free list, keeps the counts where no cell leaves the list. -/
theorem State.Counted.giveBack (f : Store → Store) (n : Nat)
    (h : n + (f (s.trib t).store).holdings = s.free + (s.trib t).store.holdings)
    (hm : (f (s.trib t).store).holdings ≤ (s.trib t).store.holdings) :
    ((s.modStore t f).setFree n).Counted := by
  refine c.move t rfl (fun v hv => by simp [State.holdings_modStore, hv]) ?_ (.inl ?_)
  · rw [State.holdings_setFree, State.holdings_modStore, if_pos rfl]; exact h
  · rw [State.holdings_setFree, State.holdings_modStore, if_pos rfl]; exact hm

theorem State.Counted.releaseFilling : (s.releaseFilling t).Counted := by
  cases h : (s.trib t).store.filling with
  | none => simpa [State.releaseFilling, h] using c
  | some p =>
    simp only [State.releaseFilling, h]
    exact c.giveBack t _ _ (by simp [Store.holdings, h]; omega) (by simp [Store.holdings, h])

theorem State.Counted.releaseTransmitting : (s.releaseTransmitting t).Counted := by
  cases h : (s.trib t).store.transmitting with
  | none => simpa [State.releaseTransmitting, h] using c
  | some p =>
    simp only [State.releaseTransmitting, h]
    exact c.giveBack t _ _ (by simp [Store.holdings, h]; omega) (by simp [Store.holdings, h])

/-- A change of what a tributary holds that keeps the number of cells. -/
theorem State.Counted.reshape (f : Store → Store)
    (h : (f (s.trib t).store).holdings = (s.trib t).store.holdings) : (s.modStore t f).Counted := by
  refine c.congr rfl rfl fun v => ?_
  rw [State.holdings_modStore]
  split
  · rename_i hv; rw [h, hv]; rfl
  · rfl

theorem State.Counted.dequeue : (s.dequeue t).Counted := by
  cases hq : (s.trib t).store.queue with
  | nil => simpa [State.dequeue, hq] using c
  | cons x rest =>
    cases ht : (s.trib t).store.transmitting with
    | none =>
      simp only [State.dequeue, hq, State.releaseTransmitting, ht]
      exact c.reshape t _ (by simp [Store.holdings, hq, ht]; omega)
    | some y =>
      have e : s.dequeue t = (s.modStore t fun z => { z with transmitting := some x, queue := rest }).setFree
          (s.free + 1) := by
        simp [State.dequeue, hq, State.releaseTransmitting, ht, State.modStore]
      rw [e]
      exact c.giveBack t _ _ (by simp [Store.holdings, hq, ht]; omega) (by simp [Store.holdings, hq, ht])

end

/-! The cell request (R28 to R32) -/

/-- A fold that at each member keeps its pick or takes the member ends with a member, or with what it began. -/
theorem foldl_pick_mem {α : Type} {f : Option α → α → Option α}
    (hf : ∀ best a, f best a = some a ∨ f best a = best) (l : List α) (best : Option α) {x : α}
    (h : l.foldl f best = some x) : x ∈ l ∨ best = some x := by
  induction l generalizing best with
  | nil => exact .inr h
  | cons a l ih =>
    rcases ih (f best a) h with hx | hx
    · exact .inl (List.mem_cons_of_mem _ hx)
    · rcases hf best a with ha | ha
      · rw [ha] at hx
        cases hx
        exact .inl List.mem_cons_self
      · exact .inr (ha ▸ hx)

/-- The victim of a squeeze is one of its candidates (R30). -/
theorem State.victimCandidate_of_victim {s : State} {t v : TribId} (h : s.victim t = some v) :
    s.victimCandidate t v = true := by
  unfold State.victim at h
  refine (foldl_pick_mem (fun best a => ?_) _ _ h).elim (fun hv => (List.mem_filter.mp hv).2) nofun
  cases best with
  | none => exact .inl rfl
  | some b =>
    dsimp only
    split
    · exact .inl rfl
    · exact .inr rfl

/-- What makes a tributary the victim of another (R30). -/
theorem State.victim_spec {s : State} {t v : TribId} (h : s.victim t = some v) :
    v ≠ t ∧ s.enabled v = true ∧ 3 < s.holdings v ∧ (s.trib v).store.queue ≠ [] := by
  have hc := State.victimCandidate_of_victim h
  simp only [State.victimCandidate, Bool.and_eq_true, decide_eq_true_eq] at hc
  obtain ⟨⟨⟨⟨hn, he⟩, -⟩, hh⟩, hq⟩ := hc
  exact ⟨hn, he, hh, hq⟩

/-- A grant adds the filling cell to what the requester holds. -/
theorem State.holdings_grant {s : State} {t : TribId} (hf : (s.trib t).store.filling = none) :
    (s.grant t).holdings t = s.holdings t + 1 := by
  rw [State.grant, State.holdings_setFree, State.holdings_modStore, if_pos rfl]
  simp only [State.holdings, Store.holdings, hf, Option.toList_some, Option.toList_none, List.length_singleton,
    List.length_nil]
  omega

theorem State.Counted.grant {s : State} (c : s.Counted) {t : TribId} (he : s.enabled t = true)
    (hf : (s.trib t).store.filling = none) (hg : s.holdings t < 3 ∨ s.unmet + 1 ≤ s.free) :
    (s.grant t).Counted := by
  have hh := State.holdings_grant hf
  have hfree : (s.grant t).free = s.free - 1 := rfl
  have h1 : 1 ≤ s.free := by
    have ho := s.owed_le_unmet t
    have hr := c.reserve
    simp only [State.owed, he, if_true, Config.floorCells] at ho
    omega
  refine c.move t rfl (fun v hv => ?_) (by omega) (.inr ⟨hh, he, hg⟩)
  rw [State.grant, State.holdings_setFree, State.holdings_modStore, if_neg hv]

/-- The victim's oldest frame given back to the free list: half of an eviction (R31). -/
def State.loseOldest (s : State) (v : TribId) : State :=
  (s.modStore v fun x => { x with queue := x.queue.drop 1 }).setFree (s.free + 1)

theorem State.holdings_loseOldest {s : State} {v : TribId} (hq : (s.trib v).store.queue ≠ []) :
    (s.loseOldest v).holdings v + 1 = s.holdings v := by
  have hl := List.length_pos_iff.mpr hq
  rw [State.loseOldest, State.holdings_setFree, State.holdings_modStore, if_pos rfl]
  simp only [State.holdings, Store.holdings, List.length_drop]
  omega

/-- An eviction keeps the counts: it moves a cell as a return to the free list and a grant would. -/
theorem State.Counted.evict {s : State} (c : s.Counted) {t v : TribId} (he : s.enabled t = true)
    (hf : (s.trib t).store.filling = none) (hv : s.victim t = some v) : (s.evict t v).Counted := by
  obtain ⟨hn, -, h3, hq⟩ := State.victim_spec hv
  have hl := State.holdings_loseOldest hq
  have others (w : TribId) (hw : w ≠ v) : (s.loseOldest v).holdings w = s.holdings w := by
    rw [State.loseOldest, State.holdings_setFree, State.holdings_modStore, if_neg hw]
  have hfree : (s.loseOldest v).free = s.free + 1 := rfl
  have c1 : (s.loseOldest v).Counted := c.move v rfl others (by omega) (.inl (by omega))
  have hu : (s.loseOldest v).unmet = s.unmet := by
    have := State.unmet_change (s := s) (u := s.loseOldest v) v rfl others
    simp only [State.owed, Config.floorCells] at this
    split at this <;> split at this <;> omega
  have ht : (s.loseOldest v).trib t = s.trib t := by
    rw [State.loseOldest, State.trib_setFree, State.trib_modStore, if_neg (Ne.symm hn)]
  have c2 : ((s.loseOldest v).grant t).Counted :=
    c1.grant he (by rw [ht]; exact hf) (.inr (by have := c.reserve; omega))
  refine c2.congr rfl rfl fun w => ?_
  simp only [State.evict, State.grant, State.loseOldest, State.holdings_raise, State.holdings_modRecord,
    State.holdings_setFree, State.holdings_modStore, State.trib_modRecord, State.trib_setFree]
  split
  · rw [if_neg (Ne.symm hn)]
  · rfl

/-- An own drop keeps the counts: a tributary at its floor without a filling cell has a frame to lose (R32). -/
theorem State.Counted.ownDrop {s : State} (c : s.Counted) {t : TribId}
    (hf : (s.trib t).store.filling = none) (h3 : 3 ≤ s.holdings t) : (s.ownDrop t).Counted := by
  refine (State.Counted.modRecord (c.reshape t _ ?_) t _).raise _
  have ht : (s.trib t).store.transmitting.toList.length ≤ 1 := by
    cases (s.trib t).store.transmitting <;> simp
  simp only [State.holdings, Store.holdings, hf, Option.toList_none, List.length_nil] at h3
  simp only [Store.holdings, hf, Option.toList_none, Option.toList_some, List.length_nil, List.length_singleton,
    List.length_drop]
  omega

/-- A cell request of an enabled tributary without a filling cell keeps the counts (R28, R29, R31, R32). -/
theorem State.Counted.cellRequest {s : State} (c : s.Counted) {t : TribId} (he : s.enabled t = true)
    (hf : (s.trib t).store.filling = none) : (s.cellRequest t).Counted := by
  rcases s.cellRequest_cases t with ⟨hg, e⟩ | ⟨h3, -, ⟨v, hv, e⟩ | ⟨-, e⟩⟩
  · rw [e]; exact c.grant he hf hg
  · rw [e]; exact c.evict he hf hv
  · rw [e]; exact c.ownDrop hf h3

theorem DepthLimit.deleted_le (d : DepthLimit) : d.deleted ≤ d.value := by cases d <;> decide

/-- A delete slip gives its frames' cells back to the free list (R35). -/
theorem State.Counted.overflowCheck {s : State} (c : s.Counted) (t : TribId) : (s.overflowCheck t).Counted := by
  by_cases hq : (s.trib t).store.queue.length = s.depth
  · have hd : s.straps.dep.deleted ≤ (s.trib t).store.queue.length := hq ▸ DepthLimit.deleted_le _
    have e : s.overflowCheck t = (((s.modStore t fun x => { x with
        queue := x.queue.drop s.straps.dep.deleted }).setFree (s.free + s.straps.dep.deleted)).modRecord t
          fun r => r.deleteSlip s.stamp s.straps.dep.deleted s.depth s.sharedFree).raise .slip := by
      rw [State.overflowCheck, if_pos hq]; rfl
    rw [e]
    refine State.Counted.raise (State.Counted.modRecord (c.giveBack t _ _ ?_ ?_) t _) _
    · simp only [Store.holdings, List.length_drop]
      omega
    · simp only [Store.holdings, List.length_drop]
      omega
  · rwa [State.overflowCheck, if_neg hq]

theorem State.overflowCheck_filling (s : State) (t : TribId) :
    ((s.overflowCheck t).trib t).store.filling = (s.trib t).store.filling := by
  unfold State.overflowCheck
  split
  · simp [State.deleteSlip, State.trib_modRecord, State.trib_modStore]
  · rfl

/-- The append keeps the number of cells: the filling cell becomes a queued one (R36). -/
theorem State.Counted.appendFilled {s : State} (c : s.Counted) (t : TribId) (m : Bool) :
    (s.appendFilled t m).Counted := by
  cases hf : (s.trib t).store.filling with
  | none => simpa [State.appendFilled, hf] using c
  | some p =>
    simp only [State.appendFilled, hf]
    refine c.reshape t _ ?_
    simp only [Store.holdings, hf, Option.toList_none, Option.toList_some, List.length_append,
      List.length_singleton, List.length_nil]
    omega

theorem State.appendFilled_filling (s : State) (t : TribId) (m : Bool) :
    ((s.appendFilled t m).trib t).store.filling = none := by
  cases hf : (s.trib t).store.filling with
  | none => simp [State.appendFilled, hf]
  | some p => simp [State.appendFilled, hf, State.trib_modStore]

/-- A frame completion of an enabled tributary keeps the counts (R34 to R36). -/
theorem State.Counted.completeFrame {s : State} (c : s.Counted) {t : TribId} (m : Bool)
    (he : s.enabled t = true) : (s.completeFrame t m).Counted := by
  refine ((c.overflowCheck t).appendFilled t m).cellRequest ?_ (State.appendFilled_filling ..)
  rw [State.enabled_of_straps (s := s) (by simp), he]

/-! Readout and the boundary keep the counts -/

theorem State.Counted.closeRepeat {s : State} (c : s.Counted) (t : TribId) : (s.closeRepeat t).Counted := by
  unfold State.closeRepeat
  split
  · exact c.modRecord t _
  · exact c

/-- Whatever readout decides, every cell that leaves a tributary goes to the free list (R26, R27). -/
theorem State.Counted.applyReadout {s : State} (c : s.Counted) (t : TribId) (n : Nat) (a : ReadoutAction) :
    (s.applyReadout t n a).Counted := by
  cases a with
  | stayFill => exact c.setOutFrame t _
  | dequeue => exact (((c.closeRepeat t).dequeue t).setStoreState t _ _).setOutFrame t _
  | goIdle => exact (((c.closeRepeat t).releaseTransmitting t).setStoreState t _ _).setOutFrame t _
  | startRepeat => exact ((((c.setStoreState t _ _).modRecord t _).raise _).setOutFrame t _)
  | continueRepeat => exact ((c.setStoreState t _ _).modRecord t _).setOutFrame t _

theorem State.Counted.readoutTrib {s : State} (c : s.Counted) (n : Nat) (t : TribId) :
    (s.readoutTrib n t).Counted := by
  unfold State.readoutTrib
  split
  · exact (c.applyReadout t n _).modRecord t _
  · exact c.setOutFrame t _

theorem State.Counted.readoutBoundary {s : State} (c : s.Counted) : s.readoutBoundary.Counted := by
  unfold State.readoutBoundary
  dsimp only
  generalize s.sharedFree = n
  induction allTribs generalizing s with
  | nil => exact c
  | cons t l ih => exact ih (c.readoutTrib n t)

/-- What every block's part of a boundary keeps, the boundary keeps, in whatever order Config chooses. -/
theorem State.takeBoundary_keeps {P : State → Prop} {s : State} (ej : Bool) (h : P s)
    (window : ∀ s, P s → P s.closeListenWindow) (withdrawal : ∀ s, P s → P s.takeWithdrawal)
    (ftu : ∀ s, P s → P s.ftuBoundary) (monitors : ∀ s, P s → P s.monitorsBoundary)
    (station : ∀ s ej begins early, P s → P (s.stationBoundary ej begins early))
    (readout : ∀ s, P s → P s.readoutBoundary) (page : ∀ s, P s → P s.pageBoundary)
    (finish : ∀ s n, P s → P { s.driveOutputs 0 with railDue := true, choiceSeq := n }) :
    P (s.takeBoundary ej) := by
  have applied {f : State → State} (hf : ∀ s, P s → P (f s)) (b : Bool) (s : State) (hs : P s) :
      P (applyWhen b f s) := by
    cases b
    · exact hs
    · exact hf s hs
  unfold State.takeBoundary State.blocksAtBoundary
  dsimp only
  exact finish _ _ (applied readout _ _ (applied (fun s => station s _ _ _) _ _ (applied monitors _ _ (page _
    (applied readout _ _ (applied (fun s => station s _ _ _) _ _ (applied monitors _ _ (ftu _
      (applied withdrawal _ _ (window _ h))))))))))

theorem State.Counted.takeBoundary {s : State} (c : s.Counted) (ej : Bool) : (s.takeBoundary ej).Counted := by
  have same {s u : State} (hs : u.straps = s.straps) (ht : u.tribs = s.tribs) (hf : u.free = s.free)
      (c : s.Counted) : u.Counted := c.congr hs hf fun v => by simp only [State.holdings, State.trib, ht]
  exact State.takeBoundary_keeps ej c (fun s => same (by simp) (by simp) (by simp))
    (fun s => same (by simp) (by simp) (by simp)) (fun s => same (by simp) (by simp) (by simp))
    (fun s => same (by simp) (by simp) (by simp)) (fun s _ _ _ => same (by simp) (by simp) (by simp))
    (fun s c => c.readoutBoundary) (fun s => same (by simp) (by simp) (by simp))
    (fun s _ => same (by simp) (by simp) (by simp))

/-! What the pool's movements leave of each tributary -/

theorem State.grant_store (s : State) (t v : TribId) :
    ((s.grant t).trib v).store =
      if v = t then { (s.trib v).store with filling := some freshPayload } else (s.trib v).store := by
  rw [State.grant, State.trib_setFree, State.trib_modStore]
  split <;> rfl

theorem State.evict_store (s : State) (t w v : TribId) :
    ((s.evict t w).trib v).store =
      { (s.trib v).store with
        queue := if v = w then (s.trib v).store.queue.drop 1 else (s.trib v).store.queue
        filling := if v = t then some freshPayload else (s.trib v).store.filling } := by
  simp only [State.evict, State.trib_raise, State.trib_modRecord, State.trib_modStore]
  split <;> split <;> rfl

theorem State.ownDrop_store (s : State) (t v : TribId) :
    ((s.ownDrop t).trib v).store =
      if v = t then { (s.trib v).store with queue := (s.trib v).store.queue.drop 1, filling := some freshPayload }
      else (s.trib v).store := by
  simp only [State.ownDrop, State.trib_raise, State.trib_modRecord, State.trib_modStore]
  split <;> rfl

/-- A cell request leaves every transmitting cell, gives the requester a filling cell and takes at most the
oldest frame of a queue (R28 to R32). -/
theorem State.cellRequest_store (s : State) (t v : TribId) :
    ((s.cellRequest t).trib v).store.transmitting = (s.trib v).store.transmitting ∧
    ((s.cellRequest t).trib v).store.filling = (if v = t then some freshPayload else (s.trib v).store.filling) ∧
    (((s.cellRequest t).trib v).store.queue = (s.trib v).store.queue ∨
      ((s.cellRequest t).trib v).store.queue = (s.trib v).store.queue.tail) := by
  rcases s.cellRequest_cases t with ⟨-, e⟩ | ⟨-, -, ⟨w, -, e⟩ | ⟨-, e⟩⟩
  · rw [e, State.grant_store]
    split <;> exact ⟨rfl, rfl, .inl rfl⟩
  · rw [e, State.evict_store]
    refine ⟨rfl, rfl, ?_⟩
    dsimp only
    split
    · exact .inr List.drop_one
    · exact .inl rfl
  · rw [e, State.ownDrop_store]
    split
    · exact ⟨rfl, rfl, .inr List.drop_one⟩
    · exact ⟨rfl, rfl, .inl rfl⟩

theorem State.releaseFilling_store (s : State) (t v : TribId) :
    ((s.releaseFilling t).trib v).store =
      if v = t then { (s.trib v).store with filling := none } else (s.trib v).store := by
  unfold State.releaseFilling
  by_cases hv : v = t
  · subst hv
    cases h : (s.trib v).store.filling with
    | none => simp only [if_true]; rw [← h]
    | some p => simp [State.trib_modStore]
  · rw [if_neg hv]
    split
    · rfl
    · rw [State.trib_setFree, State.trib_modStore, if_neg hv]

/-- The queue after an overflow check has room for the frame that is complete (R34, R35). -/
theorem State.overflowCheck_queue {s : State} {t : TribId} (h : (s.trib t).store.queue.length ≤ s.depth) :
    ((s.overflowCheck t).trib t).store.queue.length + 1 ≤ s.depth := by
  unfold State.overflowCheck
  split
  · rename_i hq
    have hn : 1 ≤ s.straps.dep.deleted ∧ 1 ≤ s.straps.dep.value := by cases s.straps.dep <;> decide
    simp only [State.deleteSlip, State.trib_raise, State.trib_setFree, State.trib_modRecord, State.trib_modStore,
      if_true, List.length_drop]
    simp only [State.depth] at hq ⊢
    omega
  · omega

theorem State.overflowCheck_store_ne (s : State) {t v : TribId} (h : v ≠ t) :
    ((s.overflowCheck t).trib v).store = (s.trib v).store := by
  unfold State.overflowCheck
  split
  · simp [State.deleteSlip, State.trib_modRecord, State.trib_modStore, h]
  · rfl

theorem State.overflowCheck_transmitting (s : State) (t : TribId) :
    ((s.overflowCheck t).trib t).store.transmitting = (s.trib t).store.transmitting := by
  unfold State.overflowCheck
  split
  · simp [State.deleteSlip, State.trib_modRecord, State.trib_modStore]
  · rfl

theorem State.appendFilled_store_ne (s : State) {t v : TribId} (m : Bool) (h : v ≠ t) :
    ((s.appendFilled t m).trib v).store = (s.trib v).store := by
  unfold State.appendFilled
  split
  · rfl
  · rw [State.trib_modStore, if_neg h]

/-- The append leaves the transmitting cell and adds at most one frame to the queue (R36). -/
theorem State.appendFilled_store (s : State) (t : TribId) (m : Bool) :
    ((s.appendFilled t m).trib t).store.transmitting = (s.trib t).store.transmitting ∧
    ((s.appendFilled t m).trib t).store.queue.length ≤ (s.trib t).store.queue.length + 1 := by
  unfold State.appendFilled
  split
  · exact ⟨rfl, by omega⟩
  · rw [State.trib_modStore, if_pos rfl]
    exact ⟨rfl, by simp⟩

/-- A completion leaves every transmitting cell and every other tributary's filling cell, gives the tributary a
new filling cell, keeps its queue within DEP, and takes at most the oldest frame of another (R34 to R36). -/
theorem State.completeFrame_store (s : State) (t : TribId) (m : Bool) :
    ((s.completeFrame t m).trib t).store.transmitting = (s.trib t).store.transmitting ∧
    ((s.completeFrame t m).trib t).store.filling = some freshPayload ∧
    ((s.trib t).store.queue.length ≤ s.depth →
      ((s.completeFrame t m).trib t).store.queue.length ≤ s.depth) := by
  obtain ⟨ht, hf, hq⟩ := ((s.overflowCheck t).appendFilled t m).cellRequest_store t t
  obtain ⟨hat, haq⟩ := (s.overflowCheck t).appendFilled_store t m
  refine ⟨by rw [State.completeFrame, ht, hat, State.overflowCheck_transmitting],
    by rw [State.completeFrame, hf, if_pos rfl], fun h => ?_⟩
  have hr := State.overflowCheck_queue h
  rw [State.completeFrame]
  rcases hq with hq | hq <;> simp only [hq, List.length_tail] <;> omega

theorem State.completeFrame_store_ne (s : State) {t v : TribId} (m : Bool) (h : v ≠ t) :
    ((s.completeFrame t m).trib v).store.transmitting = (s.trib v).store.transmitting ∧
    ((s.completeFrame t m).trib v).store.filling = (s.trib v).store.filling ∧
    (((s.completeFrame t m).trib v).store.queue = (s.trib v).store.queue ∨
      ((s.completeFrame t m).trib v).store.queue = (s.trib v).store.queue.tail) := by
  have hc := ((s.overflowCheck t).appendFilled t m).cellRequest_store t v
  rw [if_neg h, State.appendFilled_store_ne _ m h, State.overflowCheck_store_ne _ h] at hc
  rw [State.completeFrame]
  exact hc

/-! How one tributary's parts fit together, kept -/

section
variable {x y : Trib} {e : Bool} {d : Nat}

/-- What coherence reads of a tributary. -/
structure Trib.SameFlow (x y : Trib) : Prop where
  align : y.rx.align = x.rx.align
  store : y.store = x.store
  storeState : y.storeState = x.storeState
  repeatRun : y.repeatRun = x.repeatRun

theorem Trib.Coherent.congr (c : x.Coherent e d) (h : x.SameFlow y) : y.Coherent e d where
  filling := by rw [h.store, h.align]; exact c.filling
  transmitting := by rw [h.store, h.storeState]; exact c.transmitting
  queue := by rw [h.store]; exact c.queue
  idle := by rw [h.storeState, h.store, h.align]; exact c.idle
  run := by rw [h.storeState, h.repeatRun]; exact c.run
  disabled := by rw [h.storeState, h.align]; exact c.disabled

theorem Trib.Blank.congr (b : x.Blank) (h : x.SameFlow y) : y.Blank := by
  obtain ⟨ha, hs, hst, hr⟩ := b
  exact ⟨h.align.trans ha, h.store.trans hs, h.storeState.trans hst, h.repeatRun.trans hr⟩

theorem Trib.Blank.coherent (b : x.Blank) (e : Bool) (d : Nat) : x.Coherent e d := by
  obtain ⟨ha, hs, hst, hr⟩ := b
  constructor <;> simp [ha, hs, hst, hr, Store.reset]

/-- A receiver that is ALIGNED as before keeps its tributary coherent, whatever else of it changes (R12). -/
theorem Trib.Coherent.receiver (c : x.Coherent true d) {r : Receiver}
    (h : r.align = .aligned ↔ x.rx.align = .aligned) : ({ x with rx := r } : Trib).Coherent true d where
  filling := c.filling.trans h.symm
  transmitting := c.transmitting
  queue := c.queue
  idle hi := ⟨(c.idle hi).1, fun ha => (c.idle hi).2 (h.mp ha)⟩
  run := c.run
  disabled := nofun

/-- A tributary that leaves ALIGNED, or was not in it, without a filling cell (R37). -/
theorem Trib.Coherent.discard (c : x.Coherent true d) {r : Receiver} (ha : r.align ≠ .aligned) :
    ({ x with rx := r, store := { x.store with filling := none } } : Trib).Coherent true d where
  filling := by simp [ha]
  transmitting := c.transmitting
  queue := c.queue
  idle hi := ⟨(c.idle hi).1, ha⟩
  run := c.run
  disabled := nofun

/-- A tributary that loses at most its oldest frame. -/
theorem Trib.Coherent.shorten (c : x.Coherent e d) (hrx : y.rx = x.rx)
    (ht : y.store.transmitting = x.store.transmitting) (hf : y.store.filling = x.store.filling)
    (hq : y.store.queue = x.store.queue ∨ y.store.queue = x.store.queue.tail)
    (hst : y.storeState = x.storeState) (hr : y.repeatRun = x.repeatRun) : y.Coherent e d where
  filling := by rw [hf, hrx]; exact c.filling
  transmitting := by rw [ht, hst]; exact c.transmitting
  queue := by
    have := c.queue
    rcases hq with hq | hq <;> simp only [hq, List.length_tail] <;> omega
  idle hi := by
    obtain ⟨hn, ha⟩ := c.idle (hst ▸ hi)
    rw [hrx]
    refine ⟨?_, ha⟩
    rcases hq with hq | hq <;> simp [hq, hn]
  run := by rw [hst, hr]; exact c.run
  disabled := by rw [hst, hrx]; exact c.disabled

/-- An aligned tributary with its new filling cell (R12, R44). -/
theorem Trib.Coherent.filled (c : x.Coherent true d) (ha : y.rx.align = .aligned)
    (hf : y.store.filling.isSome = true) (ht : y.store.transmitting = x.store.transmitting)
    (hq : y.store.queue.length ≤ d)
    (hst : y.storeState = if x.storeState = .idle then .prime else x.storeState)
    (hr : y.repeatRun = x.repeatRun) : y.Coherent true d where
  filling := by simp [hf, ha]
  transmitting := by
    rw [ht, c.transmitting, hst]
    split
    · rename_i hi; simp [hi]
    · rfl
  queue := hq
  idle hi := by
    rw [hst] at hi
    split at hi
    · cases hi
    · rename_i hn; exact absurd hi hn
  run := by
    refine ⟨hr ▸ c.run.1, fun hn => hr.trans (c.run.2 fun hx => hn ?_)⟩
    rw [hst, hx]; rfl
  disabled := nofun

end

/-! The pool law through an edge and a dark entry -/

/-- The law at a station out of reset: counts and coherence, with the straps as they were. -/
theorem State.poolLaw_of_running {s u : State} (hr : s.running = true) (hp : u.pins = s.pins)
    (hs : u.straps = s.straps) (c : u.Counted) (h : ∀ v, (u.trib v).Coherent (s.enabled v) s.depth) :
    u.PoolLaw where
  tribs v := by
    rw [State.enabled_of_straps hs, State.depth, hs]
    exact h v
  cells := c.cells
  reserve := c.reserve
  reset hn := by
    rw [State.running, hp] at hn
    exact absurd hr (by simp [State.running, hn])

theorem State.PoolLaw.at_enabled {s : State} (L : s.PoolLaw) {t : TribId} (he : s.enabled t = true) :
    (s.trib t).Coherent true s.depth := he ▸ L.tribs t

section
variable {s u : State} (L : s.PoolLaw) (hr : s.running = true) {t : TribId} (he : s.enabled t = true)
include L hr he

/-- A bit that changes the receiver alone, ALIGNED as before or not (R3). -/
theorem State.PoolLaw.modRx (f : Receiver → Receiver)
    (h : (f (s.trib t).rx).align = .aligned ↔ (s.trib t).rx.align = .aligned) : (s.modRx t f).PoolLaw := by
  refine State.poolLaw_of_running hr rfl rfl (L.counted.modRx t f) fun v => ?_
  rw [State.trib_modRx]
  split
  · rename_i hv
    subst hv
    rw [he]
    exact (L.at_enabled he).receiver h
  · exact L.tribs v

/-- A receiver that ends outside ALIGNED gives its filling cell back, with a report and a flag (R5, R14, R37). -/
theorem State.PoolLaw.discard {f : Receiver → Receiver} (g : Record → Record) (fl : FlagId)
    (ha : (f (s.trib t).rx).align ≠ .aligned) :
    ((((s.modRx t f).releaseFilling t).modRecord t g).raise fl).PoolLaw := by
  have c := ((((L.counted.modRx t f).releaseFilling t).modRecord t g).raise fl)
  refine State.poolLaw_of_running hr (by simp) (by simp) c fun v => ?_
  rw [State.trib_raise]
  by_cases hv : v = t
  · subst hv
    rw [he]
    refine ((L.at_enabled he).discard ha).congr ⟨?_, ?_, ?_, ?_⟩
    · simp [State.trib_modRecord, State.trib_modRx]
    · simp [State.trib_modRecord, State.releaseFilling_store, State.trib_modRx]
    · simp [State.trib_modRecord, State.trib_modRx]
    · simp [State.trib_modRecord, State.trib_modRx]
  · refine (L.tribs v).congr ⟨?_, ?_, ?_, ?_⟩
    all_goals simp [State.trib_modRecord, State.releaseFilling_store, State.trib_modRx, hv]

/-- A payload bit is written in the filling cell, whose cell stays one (R12). -/
theorem State.PoolLaw.takePayloadBit (b : Bool) (ha : (s.trib t).rx.align = .aligned) :
    (s.takePayloadBit t b).PoolLaw := by
  have c := L.at_enabled he
  obtain ⟨p, hf⟩ := Option.isSome_iff_exists.mp (c.filling.mpr ha)
  rw [State.takePayloadBit_eq b hf]
  refine State.poolLaw_of_running hr rfl rfl ?_ fun v => ?_
  · refine L.counted.congr rfl rfl fun v => ?_
    rw [State.holdings, State.trib_setTrib]
    split
    · rename_i hv; simp [hv, State.holdings, Store.holdings, hf]
    · rfl
  · rw [State.trib_setTrib]
    split
    · rename_i hv
      subst hv
      rw [he]
      exact
        { filling := by simp [Receiver.payloadBit, Receiver.reload, ha]
          transmitting := c.transmitting
          queue := c.queue
          idle := c.idle
          run := c.run
          disabled := nofun }
    · exact L.tribs v

/-- Entry to ALIGNED with its cell request (R11, R33, R46). -/
theorem State.PoolLaw.takeEntry (b : Bool) (ha : (s.trib t).rx.align ≠ .aligned) : (s.takeEntry t b).PoolLaw := by
  have c := L.at_enabled he
  have hf : (s.trib t).store.filling = none := by
    simpa [ha] using c.filling
  have c1 := (L.counted.modRx t fun x => x.enterAligned b).cellRequest (t := t) he
    (by rw [State.trib_modRx, if_pos rfl]; exact hf)
  have stored := (s.modRx t fun x => x.enterAligned b).cellRequest_store t
  have c2 : (s.takeEntry t b).Counted := by
    unfold State.takeEntry State.primeStore
    split
    · exact c1.setStoreState t _ _
    · exact c1
  refine State.poolLaw_of_running hr (by simp [State.takeEntry_eq rfl]) (by simp [State.takeEntry_eq rfl]) c2
    fun v => ?_
  obtain ⟨ht, hfill, hq⟩ := stored v
  rw [State.takeEntry_eq rfl, State.trib_setTrib]
  by_cases hv : v = t
  · subst hv
    rw [if_pos rfl, he]
    refine c.filled ?_ ?_ ?_ ?_ rfl ?_
    · simp [State.trib_modRx, Receiver.enterAligned]
    · simp [hfill]
    · simp [ht, State.trib_modRx]
    · refine le_trans ?_ c.queue
      rcases hq with hq | hq <;> simp [hq, State.trib_modRx]
    · simp [State.trib_modRx]
  · simp only [State.trib_modRx, if_neg hv] at ht hfill hq
    rw [if_neg hv]
    exact (L.tribs v).shorten (by simp [State.trib_modRx, hv]) ht hfill hq (by simp [State.trib_modRx, hv])
      (by simp [State.trib_modRx, hv])

/-- A completed frame with its cell request (R34 to R36). -/
theorem State.PoolLaw.completeFrame (m : Bool) (ha : (s.trib t).rx.align = .aligned) :
    (s.completeFrame t m).PoolLaw := by
  have c := L.at_enabled he
  refine State.poolLaw_of_running hr (by simp) (by simp) (L.counted.completeFrame m he) fun v => ?_
  by_cases hv : v = t
  · subst hv
    obtain ⟨ht, hf, hq⟩ := s.completeFrame_store v m
    have hn : (s.trib v).storeState ≠ .idle := fun hi => (c.idle hi).2 ha
    rw [he]
    exact c.filled (by simp [ha]) (by simp [hf]) ht (hq c.queue) (by simp [hn]) (by simp)
  · obtain ⟨ht, hf, hq⟩ := s.completeFrame_store_ne m hv
    exact (L.tribs v).shorten (by simp) ht hf hq (by simp) (by simp)

theorem State.PoolLaw.takeVerifyCheck (b : Bool) (ha : (s.trib t).rx.align = .verify) :
    (s.takeVerifyCheck t b).PoolLaw := by
  unfold State.takeVerifyCheck
  dsimp only
  split
  · split
    · exact L.modRx hr he _ (by simp [Receiver.toSecond, Receiver.checked, Receiver.reload])
    · exact L.takeEntry hr he b (by simp [ha])
  · exact L.modRx hr he _ (by simp [Receiver.backToSearch, ha])

theorem State.PoolLaw.takeSyncCheck (b : Bool) : (s.takeSyncCheck t b).PoolLaw := by
  have L1 : (s.modRx t fun x => x.syncCheck b).PoolLaw := L.modRx hr he _ Iff.rfl
  unfold State.takeSyncCheck
  dsimp only
  split
  · exact L1.discard hr he Record.alignLoss .alignLoss (by simp [Receiver.loseAlignment])
  · exact L1

theorem State.PoolLaw.takeCompletion (b : Bool) (ha : (s.trib t).rx.align = .aligned) :
    (s.takeCompletion t b).PoolLaw := by
  have L1 := L.takePayloadBit hr he b ha
  refine State.PoolLaw.completeFrame (t := t) L1 hr he _ ?_
  simp [State.takePayloadBit, State.writeBit, State.trib_modRx, State.trib_modStore, Receiver.payloadBit,
    Receiver.reload, ha]

theorem State.PoolLaw.takeDarkEntry : (s.takeDarkEntry t).PoolLaw :=
  L.discard hr he Record.darkEntry .dark (by rw [(Receiver.darkEntry_fields _).1]; decide)

/-- An edge that the receiver acts on, by the alignment state it finds (R3). -/
theorem State.PoolLaw.takeEdge (b : Bool) : (s.takeEdge t b ((s.trib t).rx.edgeKind b)).PoolLaw := by
  cases ha : (s.trib t).rx.align with
  | dark =>
    rw [Receiver.edgeKind_dark b ha]
    exact L.modRx hr he (fun x => x.leaveDark b) (by simp [Receiver.leaveDark, ha])
  | search =>
    rw [Receiver.edgeKind_search b ha]
    split
    · exact L.modRx hr he (fun x => x.candidate b) (by simp [Receiver.candidate, ha])
    · exact L.modRx hr he (fun x => x.searchBit b) Iff.rfl
  | verify =>
    rw [Receiver.edgeKind_verify b ha]
    split
    · exact L.takeVerifyCheck hr he b ha
    · exact L.modRx hr he (fun x => x.verifyBit b) Iff.rfl
  | aligned =>
    rw [Receiver.edgeKind_aligned b ha]
    split
    · exact L.modRx hr he (fun x => x.syncBit b) Iff.rfl
    split
    · exact L.takeSyncCheck hr he b
    split
    · exact L.takePayloadBit hr he b ha
    · exact L.takeCompletion hr he b ha

end

theorem State.PoolLaw.lineEdge {s : State} (L : s.PoolLaw) (t : TribId) (b : Bool) : (s.lineEdge t b).PoolLaw := by
  unfold State.lineEdge State.edgeKind
  split
  · rename_i h
    obtain ⟨hr, he⟩ := Bool.and_eq_true_iff.mp h
    exact L.takeEdge hr he b
  · exact L

/-! The pool law through the other commands -/

/-- Two states show the pool the same. -/
structure State.SamePool (s u : State) : Prop where
  running : u.running = s.running
  straps : u.straps = s.straps
  free : u.free = s.free
  flow : ∀ v, (s.trib v).SameFlow (u.trib v)

theorem Trib.SameFlow.trans {x y z : Trib} (h : x.SameFlow y) (g : y.SameFlow z) : x.SameFlow z :=
  ⟨g.align.trans h.align, g.store.trans h.store, g.storeState.trans h.storeState, g.repeatRun.trans h.repeatRun⟩

theorem Trib.SameFlow.of_eq {x y : Trib} (h : y = x) : x.SameFlow y := h ▸ ⟨rfl, rfl, rfl, rfl⟩

theorem State.SamePool.of_tribs {s u : State} (hr : u.running = s.running) (hs : u.straps = s.straps)
    (hf : u.free = s.free) (ht : u.tribs = s.tribs) : s.SamePool u :=
  ⟨hr, hs, hf, fun v => .of_eq (by simp only [State.trib, ht])⟩

theorem State.SamePool.trans {a b c : State} (h : a.SamePool b) (g : b.SamePool c) : a.SamePool c where
  running := g.running.trans h.running
  straps := g.straps.trans h.straps
  free := g.free.trans h.free
  flow v := (h.flow v).trans (g.flow v)

theorem State.PoolLaw.congr {s u : State} (L : s.PoolLaw) (h : s.SamePool u) : u.PoolLaw where
  tribs v := by
    rw [State.enabled_of_straps h.straps, State.depth, h.straps]
    exact (L.tribs v).congr (h.flow v)
  cells := (L.counted.congr h.straps h.free fun v => congrArg Store.holdings (h.flow v).store).cells
  reserve := (L.counted.congr h.straps h.free fun v => congrArg Store.holdings (h.flow v).store).reserve
  reset hn v := (L.reset (h.running ▸ hn) v).congr (h.flow v)

theorem State.held_of_blank {s : State} (hb : ∀ v, (s.trib v).Blank) : s.held = 0 := by
  have hh : s.holdings = fun _ => 0 := funext fun v => by
    obtain ⟨-, hs, -⟩ := hb v
    simp [State.holdings, hs, Store.holdings, Store.reset]
  simp [State.held, hh]

/-- A station that holds no cell, with all 96 free (R24). -/
theorem State.poolLaw_of_blank {s : State} (hb : ∀ v, (s.trib v).Blank) (hf : s.free = Config.poolCells) :
    s.PoolLaw := by
  have hu : s.unmet ≤ Config.poolCells := by
    rw [State.unmet_eq_sum]
    have ho (v : TribId) : s.owed v ≤ 3 := by
      unfold State.owed
      split <;> simp [Config.floorCells]
    refine (List.sum_le_card_nsmul _ 3 fun n hn => ?_).trans (by simp [allTribs, Config.poolCells])
    obtain ⟨v, -, rfl⟩ := List.mem_map.mp hn
    exact ho v
  exact
    { tribs := fun v => (hb v).coherent _ _
      cells := by rw [State.held_of_blank hb, hf, Nat.add_zero]
      reserve := hf ▸ hu
      reset := fun _ => hb }

theorem State.PoolLaw.resetBlocks (s : State) : s.resetBlocks.PoolLaw :=
  State.poolLaw_of_blank
    (fun v => by
      have h : s.resetBlocks.trib v = Trib.reset := by simp [State.resetBlocks, State.reset, State.trib]
      rw [h]
      exact ⟨rfl, rfl, rfl, rfl⟩) rfl

/-- What each decision says of the queue, the receiver and the store state it was made in (R48 to R52). -/
theorem readoutAction_spec (st : StoreState) (aligned : Bool) (len centre : Nat) (hc : 1 ≤ centre) :
    (readoutAction st aligned len centre = .dequeue → 1 ≤ len) ∧
    (readoutAction st aligned len centre = .goIdle → aligned = false ∧ len = 0) ∧
    (readoutAction st aligned len centre = .startRepeat → st = .normal) ∧
    (readoutAction st aligned len centre = .continueRepeat → st = .refill) := by
  unfold readoutAction
  cases st <;> dsimp only <;> (repeat' split) <;> simp_all <;> omega

/-- One decision that fits the tributary leaves it coherent (R44). -/
theorem Trib.Coherent.afterAction {x : Trib} {d : Nat} (c : x.Coherent true d) (index : BitVec 3) (stamp : Stamp)
    (shared : Nat) {a : ReadoutAction} (hd : a = .dequeue → 1 ≤ x.store.queue.length)
    (hi : a = .goIdle → x.rx.align ≠ .aligned ∧ x.store.queue.length = 0)
    (hs : a = .startRepeat → x.storeState = .normal)
    (hr : a = .continueRepeat → x.storeState = .refill) :
    (x.afterAction index stamp shared a).Coherent true d := by
  cases a with
  | stayFill => exact c.congr ⟨rfl, rfl, rfl, rfl⟩
  | dequeue =>
    cases hq : x.store.queue with
    | nil => exact absurd (hd rfl) (by simp [hq])
    | cons f rest =>
      have hl := c.queue
      simp only [Trib.afterAction, hq]
      exact
        { filling := c.filling
          transmitting := by simp
          queue := by rw [hq, List.length_cons] at hl; dsimp only; omega
          idle := nofun
          run := by simp
          disabled := nofun }
  | goIdle =>
    obtain ⟨ha, hq⟩ := hi rfl
    exact
      { filling := c.filling
        transmitting := by simp [Trib.afterAction]
        queue := c.queue
        idle := fun _ => ⟨List.length_eq_zero_iff.mp hq, ha⟩
        run := by simp [Trib.afterAction]
        disabled := nofun }
  | startRepeat =>
    exact
      { filling := c.filling
        transmitting := by simp [Trib.afterAction, c.transmitting, hs rfl]
        queue := c.queue
        idle := nofun
        run := by simp [Trib.afterAction]
        disabled := nofun }
  | continueRepeat =>
    have hn : satSucc 255 x.repeatRun ≤ 255 := by unfold satSucc; split <;> omega
    exact
      { filling := c.filling
        transmitting := by simp [Trib.afterAction, c.transmitting, hr rfl]
        queue := c.queue
        idle := nofun
        run := by simpa [Trib.afterAction] using hn
        disabled := nofun }

/-- Readout at a boundary leaves a coherent tributary coherent (R44, R47 to R52). -/
theorem Trib.Coherent.atBoundary {x : Trib} {e : Bool} {d centre : Nat} (c : x.Coherent e d) (hc : 1 ≤ centre)
    (index : BitVec 3) (stamp : Stamp) (shared : Nat) :
    (x.atBoundary e centre index stamp shared).Coherent e d := by
  unfold Trib.atBoundary
  cases e with
  | false => exact c.congr ⟨rfl, rfl, rfl, rfl⟩
  | true =>
    obtain ⟨hd, hi, hs, hr⟩ :=
      readoutAction_spec x.storeState (x.rx.align == .aligned) x.store.queue.length centre hc
    have hi' (h) := (hi h).imp_left fun h => by simpa using h
    exact (c.afterAction index stamp shared hd hi' hs hr).congr ⟨rfl, rfl, rfl, rfl⟩

/-- Readout sends fill from a tributary that holds nothing (R48). -/
theorem Trib.Blank.atBoundary {x : Trib} (b : x.Blank) (e : Bool) (centre : Nat) (index : BitVec 3) (stamp : Stamp)
    (shared : Nat) : (x.atBoundary e centre index stamp shared).Blank := by
  obtain ⟨-, -, hst, -⟩ := id b
  refine b.congr ?_
  unfold Trib.atBoundary
  cases e
  · exact ⟨rfl, rfl, rfl, rfl⟩
  · simp only [if_true, hst, readoutAction]
    exact ⟨rfl, rfl, by simp [Trib.afterAction], rfl⟩

/-- The state whose tributaries readout meets at the release (R156). -/
def State.released (s : State) (p : Straps) (ej : Bool) : State :=
  ({ s.sampleStraps p ej with ftu := (s.sampleStraps p ej).ftu.release } : State).openListenWindow false

theorem State.released_trib (s : State) (p : Straps) (ej : Bool) (v : TribId) :
    (s.released p ej).trib v = s.trib v := rfl

theorem State.released_free (s : State) (p : Straps) (ej : Bool) : (s.released p ej).free = s.free := rfl

theorem State.takeRelease_flow (s : State) (p : Straps) (ej : Bool) :
    (s.takeRelease p ej).tribs = (s.released p ej).readoutBoundary.tribs ∧
    (s.takeRelease p ej).free = (s.released p ej).readoutBoundary.free := by
  unfold State.takeRelease State.firstPage
  dsimp only
  split <;> simp [State.released]

theorem State.PoolLaw.takeRelease {s : State} (L : s.PoolLaw) (hr : s.running = false) (p : Straps) (ej : Bool) :
    (s.takeRelease p ej).PoolLaw := by
  have hb := L.reset hr
  have h0 : s.free = Config.poolCells := by
    have h := L.cells
    rwa [State.held_of_blank hb, Nat.add_zero] at h
  have hb1 (v : TribId) : ((s.released p ej).trib v).Blank := by rw [State.released_trib]; exact hb v
  have L1 : (s.released p ej).PoolLaw := State.poolLaw_of_blank hb1 (by rw [State.released_free, h0])
  have hb2 (v : TribId) : ((s.released p ej).readoutBoundary.trib v).Blank := by
    rw [State.readoutBoundary_trib]
    exact (hb1 v).atBoundary _ _ _ _ _
  have h2 := L1.counted.readoutBoundary.cells
  rw [State.held_of_blank hb2, Nat.add_zero] at h2
  obtain ⟨ht, hf⟩ := s.takeRelease_flow p ej
  refine State.poolLaw_of_blank (fun v => ?_) (hf.trans h2)
  have : (s.takeRelease p ej).trib v = (s.released p ej).readoutBoundary.trib v := by simp only [State.trib, ht]
  rw [this]
  exact hb2 v

theorem DepthLimit.centre_pos (d : DepthLimit) : 1 ≤ d.centre := by cases d <;> decide

theorem State.PoolLaw.takeBoundary {s : State} (L : s.PoolLaw) (hr : s.running = true) (ej : Bool) :
    (s.takeBoundary ej).PoolLaw := by
  obtain ⟨-, -, hst⟩ := s.boundaryStart_flow
  have hp : s.boundaryStart.pins = s.pins := by
    unfold State.boundaryStart
    cases (s.listen.withdrawRequest && Config.withdrawBeforeFtu s.choiceSeq) <;> simp
  refine State.poolLaw_of_running hr ?_ ?_ (L.counted.takeBoundary ej) fun v => ?_
  · rw [(s.takeBoundary_same ej).pins, State.stationBoundary_pins, hp]
  · rw [(s.takeBoundary_same ej).straps, State.stationBoundary_straps, hst]
  · rw [State.takeBoundary_trib]
    exact (L.tribs v).atBoundary (DepthLimit.centre_pos _) _ _ _

/-- A command whose work at a station out of reset leaves the pool alone. -/
theorem State.PoolLaw.whenRunning {s : State} (L : s.PoolLaw) {f : State → State}
    (h : s.running = true → (f s).PoolLaw) : (whenRunning f s).PoolLaw := by
  unfold Machine.whenRunning
  split
  · rename_i hr; exact h hr
  · exact L

theorem State.takeClose_pool (s : State) : s.SamePool s.takeClose := by
  unfold State.takeClose
  dsimp only
  exact .of_tribs (by simp [State.running]) (by simp) (by simp) (by simp)

theorem State.takeGradeStart_pool (s : State) : s.SamePool s.takeGradeStart := by
  unfold State.takeGradeStart
  split
  · exact .of_tribs rfl rfl rfl rfl
  split
  · exact .of_tribs rfl rfl rfl rfl
  · unfold State.pullGrade
    split <;> exact .of_tribs rfl rfl rfl rfl

theorem State.takeEjRise_pool (s : State) : s.SamePool s.takeEjRise := by
  unfold State.takeEjRise
  dsimp only
  split <;> exact .of_tribs rfl rfl rfl rfl

theorem State.takeCapture_pool (s : State) (line : RailLine) (ch : LineChange) (n : Nat) :
    s.SamePool (s.takeCapture line ch n) := by
  unfold State.takeCapture
  split <;> exact .of_tribs rfl rfl rfl rfl

/-- Every command keeps the pool law. -/
theorem State.PoolLaw.exec {s u : State} (L : s.PoolLaw) (c : Instr) (h : exec c s = .next u) : u.PoolLaw := by
  cases c with
  | resetAssertion => cases h; exact .resetBlocks s
  | resetRelease p ej =>
    cases h
    split
    · exact L
    · rename_i hr; exact L.takeRelease (by simpa using hr) p ej
  | leaveDark t b => rw [exec_leaveDark_eq] at h; cases h; exact L.lineEdge t b
  | darkEntry t =>
    cases h
    split
    · rename_i hc
      simp only [Bool.and_eq_true] at hc
      obtain ⟨⟨hr, he⟩, -⟩ := hc
      exact L.takeDarkEntry hr he
    · exact L
  | candidate t b => rw [exec_candidate_eq] at h; cases h; exact L.lineEdge t b
  | verifyCheck t b => rw [exec_verifyCheck_eq] at h; cases h; exact L.lineEdge t b
  | syncOctetCheck t b => rw [exec_syncOctetCheck_eq] at h; cases h; exact L.lineEdge t b
  | frameCompletion t b => rw [exec_frameCompletion_eq] at h; cases h; exact L.lineEdge t b
  | officeBoundary ej => cases h; exact L.whenRunning fun hr => L.takeBoundary hr ej
  | measurementClose => cases h; exact L.whenRunning fun _ => L.congr s.takeClose_pool
  | acceptedEdge r n =>
    cases h
    split
    · exact L.congr (.of_tribs (by simp [State.running]) (by simp) (by simp) (by simp))
    · exact L
  | missingEdge r =>
    cases h
    split
    · exact L.congr (.of_tribs (by simp [State.running]) (by simp) (by simp) (by simp))
    · exact L
  | gradeStart => cases h; exact L.whenRunning fun _ => L.congr s.takeGradeStart_pool
  | pulseEnd line => cases h; exact L.whenRunning fun _ => L.congr (.of_tribs rfl rfl rfl rfl)
  | ejRisingEdge => cases h; exact L.whenRunning fun _ => L.congr s.takeEjRise_pool
  | acknowledgement => cases h; exact L.whenRunning fun _ => L.congr (.of_tribs rfl rfl rfl rfl)
  | lineClockEdge t b => cases h; exact L.lineEdge t b
  | railLineCapture line ch n => cases h; exact L.whenRunning fun _ => L.congr (s.takeCapture_pool line ch n)
  | officeBit k half =>
    cases h
    exact L.whenRunning fun _ => L.congr (.of_tribs (by simp [State.running]) (by simp) (by simp) (by simp))

/-! The pool law through a tick -/

theorem State.advance_pool (s : State) (p : InPins) : s.SamePool (s.advance p) where
  running := by simp [State.running, State.advance]
  straps := by simp [State.advance]
  free := by simp [State.advance]
  flow v := by
    rw [State.advance_trib]
    split
    · exact ⟨rfl, rfl, rfl, rfl⟩
    · exact .of_eq rfl

theorem State.SamePool.queue {s u : State} (h : s.SamePool u) (r : Rail) (l : List Instr) :
    s.SamePool { u with rail := r, pending := l } := ⟨h.running, h.straps, h.free, h.flow⟩

theorem State.tickRunning_pool (s : State) (i : TickInput) : s.SamePool (s.tickRunning i) := by
  rw [State.tickRunning_state]
  exact (s.advance_pool i.pins).queue _ _

/-- A tick takes and gives no cell. -/
theorem State.idle_pool (s : State) : s.SamePool s.idle := by
  unfold State.idle
  split
  · dsimp only
    rw [State.readRail_state]
    exact .of_tribs rfl rfl rfl rfl
  · unfold State.takeTick
    dsimp only
    split
    · rename_i hr
      split
      · have h0 : s.SamePool { s with inputs := s.inputs.drop 1 } := .of_tribs rfl rfl rfl rfl
        exact h0.trans (State.tickRunning_pool _ _)
      · exact .of_tribs hr.symm rfl rfl rfl
    · rename_i hr
      exact .of_tribs (by simpa [State.running] using hr) rfl rfl rfl

/-- Settles O19: a tick leaves the pool alone, and every command keeps its law. -/
theorem poolLawKept : Obligations.PoolLawKept := by
  intro s u L h
  unfold step at h
  split at h
  next => cases h; exact L.congr s.idle_pool
  next c rest _ =>
    have L1 : ({ s with pending := rest } : State).PoolLaw := L.congr (.of_tribs rfl rfl rfl rfl)
    exact L1.exec c h

end Sys2Proof.Machine
end

section
/-! PROOFS. What a boundary, a close, a reference event and a receiver event leave unchanged. -/

namespace Sys2Proof.Machine

/-! What a boundary leaves in every case (R84, R89) -/

/-- The fields of the FTU that its boundary work leaves. -/
structure Ftu.Lasts (f g : Ftu) : Prop where
  crystal : g.crystal = f.crystal
  integral : g.integral = f.integral
  history : g.history = f.history
  lastError : g.lastError = f.lastError
  rangeRun : g.rangeRun = f.rangeRun

/-- The fields of the rail interface that a boundary leaves. -/
structure Rail.Lasts (r q : Rail) : Prop where
  bestGrade : q.bestGrade = r.bestGrade
  railError : q.railError = r.railError
  leadSpread : q.leadSpread = r.leadSpread
  backoff : q.backoff = r.backoff
  relabelStamps : q.relabelStamps = r.relabelStamps

/-- What every boundary leaves as it was. -/
structure State.Lasts (s u : State) : Prop where
  pins : u.pins = s.pins
  straps : u.straps = s.straps
  counters : u.counters = s.counters
  pending : u.pending = s.pending
  inputs : u.inputs = s.inputs
  ftu : s.ftu.Lasts u.ftu
  buildOut : u.selector.buildOut = s.selector.buildOut
  rail : s.rail.Lasts u.rail

theorem Ftu.Lasts.refl (f : Ftu) : f.Lasts f := ⟨rfl, rfl, rfl, rfl, rfl⟩

theorem Rail.Lasts.refl (r : Rail) : r.Lasts r := ⟨rfl, rfl, rfl, rfl, rfl⟩

theorem Ftu.Lasts.of_eq {f g : Ftu} (h : g = f) : f.Lasts g := h ▸ .refl f

theorem Rail.Lasts.of_eq {r q : Rail} (h : q = r) : r.Lasts q := h ▸ .refl r

theorem Ftu.Lasts.trans {f g k : Ftu} (h : f.Lasts g) (i : g.Lasts k) : f.Lasts k :=
  ⟨i.1.trans h.1, i.2.trans h.2, i.3.trans h.3, i.4.trans h.4, i.5.trans h.5⟩

theorem Rail.Lasts.trans {f g k : Rail} (h : f.Lasts g) (i : g.Lasts k) : f.Lasts k :=
  ⟨i.1.trans h.1, i.2.trans h.2, i.3.trans h.3, i.4.trans h.4, i.5.trans h.5⟩

theorem State.Lasts.trans {a b c : State} (h : a.Lasts b) (g : b.Lasts c) : a.Lasts c where
  pins := g.pins.trans h.pins
  straps := g.straps.trans h.straps
  counters := g.counters.trans h.counters
  pending := g.pending.trans h.pending
  inputs := g.inputs.trans h.inputs
  ftu := h.ftu.trans g.ftu
  buildOut := g.buildOut.trans h.buildOut
  rail := h.rail.trans g.rail

/-- A change of the station's blocks lasts where selector, FTU and rail do. -/
theorem State.Lasts.of_blocks {s u : State} (hp : u.pins = s.pins) (hs : u.straps = s.straps)
    (hc : u.counters = s.counters) (hq : u.pending = s.pending) (hi : u.inputs = s.inputs) (hf : u.ftu = s.ftu)
    (hx : u.selector = s.selector) (hr : u.rail = s.rail) : s.Lasts u :=
  ⟨hp, hs, hc, hq, hi, .of_eq hf, by rw [hx], .of_eq hr⟩

/-- The FTU's own work at a boundary: the words, the gain set and the runs stay (R84, R85). -/
theorem Ftu.boundary_keeps (f : Ftu) (m : Mode) :
    f.Lasts (f.boundary m) ∧ (f.boundary m).frequency = f.frequency ∧ (f.boundary m).gain = f.gain ∧
      (f.boundary m).settleRun = f.settleRun ∧ (f.boundary m).excursionRun = f.excursionRun := by
  unfold Ftu.boundary Ftu.advanceSecond Ftu.fixLength
  split <;> split <;> exact ⟨⟨rfl, rfl, rfl, rfl, rfl⟩, rfl, rfl, rfl, rfl⟩

theorem State.changeMode_lasts (s : State) (m : Mode) : s.Lasts (s.changeMode m) :=
  ⟨rfl, rfl, rfl, rfl, rfl, ⟨rfl, rfl, rfl, rfl, rfl⟩, rfl, ⟨rfl, rfl, rfl, rfl, rfl⟩⟩

theorem State.takeWithdrawal_lasts (s : State) : s.Lasts s.takeWithdrawal := by
  unfold State.takeWithdrawal
  dsimp only
  split
  · exact ⟨rfl, rfl, rfl, rfl, rfl, ⟨rfl, rfl, rfl, rfl, rfl⟩, rfl, ⟨rfl, rfl, rfl, rfl, rfl⟩⟩
  · exact .of_blocks rfl rfl rfl rfl rfl rfl rfl rfl

theorem State.takeJoin_lasts (s : State) : s.Lasts s.takeJoin := by
  unfold State.takeJoin
  dsimp only
  split
  all_goals exact ⟨rfl, rfl, rfl, rfl, rfl, ⟨rfl, rfl, rfl, rfl, rfl⟩, rfl, ⟨rfl, rfl, rfl, rfl, rfl⟩⟩

theorem State.passage_lasts (s : State) (ej begins : Bool) : s.Lasts (s.passage ej begins) := by
  unfold State.passage
  split
  · exact s.takeWithdrawal_lasts
  split
  · exact s.takeJoin_lasts
  split
  · exact ⟨rfl, rfl, rfl, rfl, rfl, .refl _, rfl, ⟨rfl, rfl, rfl, rfl, rfl⟩⟩
  split
  all_goals exact .of_blocks rfl rfl rfl rfl rfl rfl rfl rfl

/-- The rail's work at a boundary leaves the results, the marks, the backoff and the stamps. -/
theorem State.railBoundary_rail (s : State) (begins : Bool) :
    s.rail.Lasts (s.railBoundary begins).rail ∧
      (s.railBoundary begins).rail.leadAbsentRun = s.rail.leadAbsentRun ∧
      (s.railBoundary begins).rail.markSet = s.rail.markSet ∧
      (s.railBoundary begins).rail.markCand = s.rail.markCand ∧
      (s.railBoundary begins).rail.markRun = s.rail.markRun := by
  unfold State.railBoundary State.driveRail
  dsimp only
  (repeat' split) <;> exact ⟨⟨rfl, rfl, rfl, rfl, rfl⟩, rfl, rfl, rfl, rfl⟩

theorem State.railBoundary_lasts (s : State) (begins : Bool) : s.Lasts (s.railBoundary begins) :=
  ⟨by simp, by simp, by simp, by simp, by simp, .of_eq (by simp), by simp, (s.railBoundary_rail begins).1⟩

theorem State.stationBoundary_lasts (s : State) (ej begins early : Bool) :
    s.Lasts (s.stationBoundary ej begins early) := by
  unfold State.stationBoundary
  cases early
  · exact (s.passage_lasts ej begins).trans (State.railBoundary_lasts ..)
  · exact s.railBoundary_lasts begins

theorem State.takeBoundary_lasts (s : State) (ej : Bool) : s.Lasts (s.takeBoundary ej) := by
  refine State.takeBoundary_keeps (P := s.Lasts) ej (.of_blocks rfl rfl rfl rfl rfl rfl rfl rfl)
    (fun u h => h.trans ⟨rfl, rfl, rfl, rfl, rfl, .refl _, rfl, ⟨rfl, rfl, rfl, rfl, rfl⟩⟩)
    (fun u h => h.trans u.takeWithdrawal_lasts)
    (fun u h => h.trans ⟨rfl, rfl, rfl, rfl, rfl, (u.ftu.boundary_keeps _).1, rfl, .refl _⟩)
    (fun u h => h.trans (.of_blocks rfl rfl rfl rfl rfl rfl rfl rfl))
    (fun u ej begins early h => h.trans (u.stationBoundary_lasts ej begins early))
    (fun u h => h.trans (.of_blocks ?_ ?_ ?_ ?_ ?_ ?_ ?_ ?_))
    (fun u h => h.trans (.of_blocks ?_ ?_ ?_ ?_ ?_ ?_ ?_ ?_))
    (fun u n h => h.trans (.of_blocks ?_ ?_ ?_ ?_ ?_ ?_ ?_ ?_))
  all_goals simp

/-- Readout touches neither receiver nor filling cell (R47). -/
theorem Trib.atBoundary_receiver (x : Trib) (e : Bool) (centre : Nat) (index : BitVec 3) (stamp : Stamp)
    (shared : Nat) : (x.atBoundary e centre index stamp shared).rx = x.rx ∧
      (x.atBoundary e centre index stamp shared).store.filling = x.store.filling := by
  unfold Trib.atBoundary
  split
  · dsimp only
    generalize readoutAction _ _ _ _ = a
    unfold Trib.afterAction
    cases a <;> dsimp only
    case dequeue => split <;> exact ⟨rfl, rfl⟩
    all_goals exact ⟨rfl, rfl⟩
  · exact ⟨rfl, rfl⟩

/-! What a boundary leaves where neither a withdrawal nor the end of a join frame is due -/

/-- What such a boundary leaves of selector, mode machine, FTU and rail. -/
structure State.Settled (s u : State) : Prop where
  selector : u.selector = s.selector
  modes : u.modes = s.modes
  frequency : u.ftu.frequency = s.ftu.frequency
  gain : u.ftu.gain = s.ftu.gain
  settleRun : u.ftu.settleRun = s.ftu.settleRun
  excursionRun : u.ftu.excursionRun = s.ftu.excursionRun
  leadAbsentRun : u.rail.leadAbsentRun = s.rail.leadAbsentRun
  markSet : u.rail.markSet = s.rail.markSet
  markCand : u.rail.markCand = s.rail.markCand
  markRun : u.rail.markRun = s.rail.markRun

theorem State.Settled.trans {a b c : State} (h : a.Settled b) (g : b.Settled c) : a.Settled c :=
  ⟨g.1.trans h.1, g.2.trans h.2, g.3.trans h.3, g.4.trans h.4, g.5.trans h.5, g.6.trans h.6, g.7.trans h.7,
    g.8.trans h.8, g.9.trans h.9, g.10.trans h.10⟩

theorem State.boundaryStart_ordinary {s : State} (hw : s.listen.withdrawRequest = false) :
    s.boundaryStart = s.closeListenWindow.ftuBoundary := by simp [State.boundaryStart, hw]

theorem State.boundaryStart_settled {s : State} (hw : s.listen.withdrawRequest = false) :
    s.Settled s.boundaryStart := by
  rw [State.boundaryStart_ordinary hw]
  obtain ⟨-, hf, hg, hs, he⟩ := s.ftu.boundary_keeps s.modes.mode
  exact ⟨rfl, rfl, hf, hg, hs, he, rfl, rfl, rfl, rfl⟩

/-- Without a withdrawal request and outside a join frame a passage writes the LISTEN procedure alone, and
discards a held window (R163, R164). -/
theorem State.passage_settled {s : State} (ej begins : Bool) (hw : s.listen.withdrawRequest = false)
    (hp : s.listen.phase ≠ .joinFrame) : s.Settled (s.passage ej begins) := by
  unfold State.passage
  rw [if_neg (by simp [hw]), if_neg hp]
  (repeat' split) <;> exact ⟨rfl, rfl, rfl, rfl, rfl, rfl, rfl, rfl, rfl, rfl⟩

theorem State.railBoundary_settled (s : State) (begins : Bool) : s.Settled (s.railBoundary begins) := by
  obtain ⟨-, hl, hs, hc, hr⟩ := s.railBoundary_rail begins
  exact ⟨by simp, by simp, by simp, by simp, by simp, by simp, hl, hs, hc, hr⟩

/-- A passage at which nothing is due changes nothing (R161, R163, R164). -/
theorem State.passage_quiet {s : State} {ej : Bool} (hw : s.listen.withdrawRequest = false)
    (hp : s.listen.phase ≠ .joinFrame) (hd : s.listen.withdrawn = false ∨ ej = true) :
    s.passage ej false = s := by
  unfold State.passage
  rw [if_neg (by simp [hw]), if_neg hp, if_neg (by rcases hd with hd | hd <;> simp [hd])]
  rfl

section
variable {s : State} (ej : Bool) (hw : s.listen.withdrawRequest = false) (hp : s.listen.phase ≠ .joinFrame)
include hw hp

theorem State.takeBoundary_settled : s.Settled (s.takeBoundary ej) := by
  have same := s.takeBoundary_same ej
  simp only [hw, Bool.false_and] at same
  have start : s.boundaryStart.listen = s.listen := by simp [State.boundaryStart_ordinary hw]
  have station : s.Settled (s.boundaryStart.stationBoundary ej s.ftu.joinRequest.isSome false) :=
    (State.boundaryStart_settled hw).trans
      ((State.passage_settled ej _ (start ▸ hw) (start ▸ hp)).trans (State.railBoundary_settled ..))
  exact station.trans ⟨same.selector, same.modes, congrArg Ftu.frequency same.ftu, congrArg Ftu.gain same.ftu,
    congrArg Ftu.settleRun same.ftu, congrArg Ftu.excursionRun same.ftu, congrArg Rail.leadAbsentRun same.rail,
    congrArg Rail.markSet same.rail, congrArg Rail.markCand same.rail, congrArg Rail.markRun same.rail⟩

theorem State.takeBoundary_listen (hd : s.listen.withdrawn = false ∨ ej = true) (hj : s.ftu.joinRequest = none) :
    (s.takeBoundary ej).listen = s.listen := by
  have same := (s.takeBoundary_same ej).listen
  have start : s.boundaryStart.listen = s.listen := by simp [State.boundaryStart_ordinary hw]
  rw [same]
  simp only [hw, Bool.false_and, hj, Option.isSome_none, State.stationBoundary, Bool.false_eq_true, if_false]
  rw [State.passage_quiet (start ▸ hw) (start ▸ hp) (start ▸ hd), State.railBoundary_listen, start]

end

/-! A close and a reference event -/

/-- A close leaves all but counters, FTU, selector, mode machine, rail, LISTEN procedure, flags and the model's
counter. -/
theorem State.takeClose_frame (s : State) : s.takeClose = { s with
    counters := s.takeClose.counters, ftu := s.takeClose.ftu, selector := s.takeClose.selector
    modes := s.takeClose.modes, rail := s.takeClose.rail, listen := s.takeClose.listen
    flags := s.takeClose.flags, choiceSeq := s.takeClose.choiceSeq } := by
  obtain ⟨u, hu⟩ : ∃ u, u = s.takeClose := ⟨_, rfl⟩
  have pins : u.pins = s.pins := by simp [hu, State.takeClose]
  have straps : u.straps = s.straps := by simp [hu, State.takeClose]
  have tribs : u.tribs = s.tribs := by simp [hu, State.takeClose]
  have free : u.free = s.free := by simp [hu, State.takeClose]
  have monA : u.monA = s.monA := by simp [hu, State.takeClose]
  have monB : u.monB = s.monB := by simp [hu, State.takeClose]
  have maint : u.maint = s.maint := by simp [hu, State.takeClose]
  have out : u.out = s.out := by simp [hu, State.takeClose]
  have pending : u.pending = s.pending := by simp [hu, State.takeClose]
  have inputs : u.inputs = s.inputs := by simp [hu, State.takeClose]
  have railDue : u.railDue = s.railDue := by simp [hu, State.takeClose]
  rw [← hu, ← pins, ← straps, ← tribs, ← free, ← monA, ← monB, ← maint, ← out, ← pending, ← inputs, ← railDue]

/-- What a reference event leaves besides the other monitor. -/
structure State.SameBesideTiming (s u : State) : Prop where
  pins : u.pins = s.pins
  straps : u.straps = s.straps
  tribs : u.tribs = s.tribs
  free : u.free = s.free
  listen : u.listen = s.listen
  maint : u.maint = s.maint
  out : u.out = s.out
  pending : u.pending = s.pending
  inputs : u.inputs = s.inputs
  railDue : u.railDue = s.railDue
  choiceSeq : u.choiceSeq = s.choiceSeq

theorem State.SameBesideTiming.frame {s u : State} (h : s.SameBesideTiming u) :
    u = { s with counters := u.counters, ftu := u.ftu, monA := u.monA, monB := u.monB, selector := u.selector,
                 modes := u.modes, rail := u.rail, flags := u.flags } := by
  obtain ⟨h1, h2, h3, h4, h5, h6, h7, h8, h9, h10, h11⟩ := h
  rw [← h1, ← h2, ← h3, ← h4, ← h5, ← h6, ← h7, ← h8, ← h9, ← h10, ← h11]

theorem State.takeAcceptedEdge_beside (s : State) (r : RefId) (n : Nat) :
    s.SameBesideTiming (s.takeAcceptedEdge r n) := by constructor <;> simp

theorem State.takeMissingEdge_beside (s : State) (r : RefId) : s.SameBesideTiming (s.takeMissingEdge r) := by
  constructor <;> simp

theorem State.monitor_congr {s u : State} (ha : u.monA = s.monA) (hb : u.monB = s.monB) (r : RefId) :
    u.monitor r = s.monitor r := by cases r <;> assumption

/-- The loss of a reference writes its own monitor only. -/
theorem State.loseReference_other (s : State) (r : RefId) :
    (s.loseReference r).monitor r.other = s.monitor r.other := by
  have lost (u : State) : (u.loseSelected r).monitor r.other = u.monitor r.other :=
    State.monitor_congr (by simp) (by simp) _
  have flagged (u : State) (f : FlagId) : (u.raise f).monitor r.other = u.monitor r.other :=
    State.monitor_congr (by simp) (by simp) _
  unfold State.loseReference
  dsimp only
  (repeat' split) <;> simp [lost, flagged]

theorem State.impair_other (s : State) (r : RefId) : (s.impair r).monitor r.other = s.monitor r.other := by
  unfold State.impair
  dsimp only
  split
  · exact s.loseReference_other r
  · simp

theorem State.judgeInterval_other (s : State) (r : RefId) (i : Interval) :
    (s.judgeInterval r i).monitor r.other = s.monitor r.other := by
  have noted (u : State) : u.noteQualified.monitor r.other = u.monitor r.other :=
    State.monitor_congr (by simp) (by simp) _
  unfold State.judgeInterval
  dsimp only
  (repeat' split) <;> simp [noted, State.impair_other]

theorem State.takeAcceptedEdge_other (s : State) (r : RefId) (n : Nat) :
    (s.takeAcceptedEdge r n).monitor r.other = s.monitor r.other := by
  have offered (u : State) (i : Interval) : (u.offerEdge r n i).monitor r.other = u.monitor r.other :=
    State.monitor_congr (by simp) (by simp) _
  simp [State.takeAcceptedEdge, State.judgeInterval_other, offered]

theorem State.takeMissingEdge_other (s : State) (r : RefId) :
    (s.takeMissingEdge r).monitor r.other = s.monitor r.other := by
  have offered (u : State) : (u.offerNothing r).monitor r.other = u.monitor r.other :=
    State.monitor_congr (by simp) (by simp) _
  unfold State.takeMissingEdge
  dsimp only
  split <;> simp [offered, State.impair_other]

/-! A receiver event -/

/-- All of the state but tributaries, free count and flags is as it was. -/
def State.SameBesideData (s u : State) : Prop :=
  u = { s with tribs := u.tribs, free := u.free, flags := u.flags }

theorem State.SameBesideData.trans {a b c : State} (h : a.SameBesideData b) (g : b.SameBesideData c) :
    a.SameBesideData c := by
  unfold State.SameBesideData at h g ⊢
  rw [h] at g
  exact g

/-- A change within tributary t, the free count and the flags: the other tributaries are as they were. -/
structure State.WithinTrib (s u : State) (t : TribId) : Prop where
  beside : s.SameBesideData u
  others : ∀ v, v ≠ t → u.trib v = s.trib v

/-- A change by an event of tributary t: of the others, at most the oldest frame of a queue is taken, with its
record (R31). -/
structure State.ByTrib (s u : State) (t : TribId) : Prop where
  beside : s.SameBesideData u
  others : ∀ v, v ≠ t →
    u.trib v = { s.trib v with
      store := { (s.trib v).store with queue := (u.trib v).store.queue }
      record := (u.trib v).record } ∧
    ((u.trib v).store.queue = (s.trib v).store.queue ∨ (u.trib v).store.queue = (s.trib v).store.queue.tail)

section
variable {s u w : State} {t : TribId}

theorem State.WithinTrib.refl (s : State) (t : TribId) : s.WithinTrib s t := ⟨rfl, fun _ _ => rfl⟩

theorem State.WithinTrib.trans (h : s.WithinTrib u t) (g : u.WithinTrib w t) : s.WithinTrib w t :=
  ⟨h.beside.trans g.beside, fun v hv => (g.others v hv).trans (h.others v hv)⟩

theorem State.WithinTrib.byTrib (h : s.WithinTrib u t) : s.ByTrib u t :=
  ⟨h.beside, fun v hv => by rw [h.others v hv]; exact ⟨rfl, .inl rfl⟩⟩

theorem State.WithinTrib.trans_byTrib (h : s.WithinTrib u t) (g : u.ByTrib w t) : s.ByTrib w t :=
  ⟨h.beside.trans g.beside, fun v hv => by rw [← h.others v hv]; exact g.others v hv⟩

theorem State.ByTrib.trans_withinTrib (h : s.ByTrib u t) (g : u.WithinTrib w t) : s.ByTrib w t :=
  ⟨h.beside.trans g.beside, fun v hv => by rw [g.others v hv]; exact h.others v hv⟩

end

section
variable (s : State) (t : TribId)

theorem State.modRx_within (f : Receiver → Receiver) : s.WithinTrib (s.modRx t f) t :=
  ⟨rfl, fun v hv => by rw [State.trib_modRx, if_neg hv]⟩

theorem State.modStore_within (f : Store → Store) : s.WithinTrib (s.modStore t f) t :=
  ⟨rfl, fun v hv => by rw [State.trib_modStore, if_neg hv]⟩

theorem State.modRecord_within (f : Record → Record) : s.WithinTrib (s.modRecord t f) t :=
  ⟨rfl, fun v hv => by rw [State.trib_modRecord, if_neg hv]⟩

theorem State.setStoreState_within (x : StoreState) (n : Nat) : s.WithinTrib (s.setStoreState t x n) t :=
  ⟨rfl, fun v hv => by rw [State.trib_setStoreState, if_neg hv]⟩

theorem State.setFree_within (n : Nat) : s.WithinTrib (s.setFree n) t := ⟨rfl, fun _ _ => rfl⟩

theorem State.raise_within (f : FlagId) : s.WithinTrib (s.raise f) t := ⟨rfl, fun _ _ => rfl⟩

theorem State.releaseFilling_within : s.WithinTrib (s.releaseFilling t) t := by
  unfold State.releaseFilling
  split
  · exact .refl s t
  · exact (s.modStore_within t _).trans (State.setFree_within _ t _)

theorem State.overflowCheck_within : s.WithinTrib (s.overflowCheck t) t := by
  unfold State.overflowCheck
  split
  · exact (((s.modStore_within t _).trans (State.modRecord_within _ t _)).trans (State.setFree_within _ t _)).trans
      (State.raise_within _ t _)
  · exact .refl s t

theorem State.appendFilled_within (m : Bool) : s.WithinTrib (s.appendFilled t m) t := by
  unfold State.appendFilled
  split
  · exact .refl s t
  · exact s.modStore_within t _

theorem State.primeStore_within : s.WithinTrib (s.primeStore t) t := by
  unfold State.primeStore
  split
  · exact s.setStoreState_within t _ _
  · exact .refl s t

/-- A cell request takes from others by an eviction only (R28 to R32). -/
theorem State.cellRequest_byTrib : s.ByTrib (s.cellRequest t) t := by
  refine ⟨?_, fun v hv => ?_⟩
  · rcases s.cellRequest_cases t with ⟨-, e⟩ | ⟨-, -, ⟨w, -, e⟩ | ⟨-, e⟩⟩ <;> rw [e] <;> rfl
  · obtain ⟨ht, hf, hq⟩ := s.cellRequest_store t v
    rw [if_neg hv] at hf
    refine ⟨?_, hq⟩
    have hrx := s.cellRequest_trib_rx t v
    have hst := s.cellRequest_trib_storeState t v
    have hrun := s.cellRequest_trib_repeatRun t v
    have hout := s.cellRequest_trib_outFrame t v
    dsimp only
    rw [← hrx, ← hst, ← hrun, ← hout, ← ht, ← hf]

/-- A loss of ALIGNED, or a dark entry: the receiver's change and the release of its filling cell (R5, R14). -/
theorem State.discard_within (f : Receiver → Receiver) (g : Record → Record) (fl : FlagId) :
    s.WithinTrib ((((s.modRx t f).releaseFilling t).modRecord t g).raise fl) t :=
  (((s.modRx_within t f).trans (State.releaseFilling_within _ t)).trans (State.modRecord_within _ t g)).trans
    (State.raise_within _ t fl)

theorem State.takePayloadBit_within (b : Bool) : s.WithinTrib (s.takePayloadBit t b) t :=
  (s.modStore_within t _).trans (State.modRx_within _ t _)

theorem State.takeEntry_byTrib (b : Bool) : s.ByTrib (s.takeEntry t b) t :=
  ((s.modRx_within t _).trans_byTrib (State.cellRequest_byTrib _ t)).trans_withinTrib (State.primeStore_within _ t)

theorem State.takeVerifyCheck_byTrib (b : Bool) : s.ByTrib (s.takeVerifyCheck t b) t := by
  unfold State.takeVerifyCheck
  dsimp only
  split
  · split
    · exact (s.modRx_within t _).byTrib
    · exact s.takeEntry_byTrib t b
  · exact (s.modRx_within t _).byTrib

theorem State.takeSyncCheck_within (b : Bool) : s.WithinTrib (s.takeSyncCheck t b) t := by
  unfold State.takeSyncCheck
  dsimp only
  split
  · exact (s.modRx_within t _).trans (State.discard_within _ t _ _ _)
  · exact s.modRx_within t _

theorem State.completeFrame_byTrib (m : Bool) : s.ByTrib (s.completeFrame t m) t :=
  ((s.overflowCheck_within t).trans (State.appendFilled_within _ t m)).trans_byTrib (State.cellRequest_byTrib _ t)

theorem State.takeCompletion_byTrib (b : Bool) : s.ByTrib (s.takeCompletion t b) t :=
  (s.takePayloadBit_within t b).trans_byTrib (State.completeFrame_byTrib _ t _)

/-- An edge of one tributary, whatever its occasion. -/
theorem State.lineEdge_byTrib (b : Bool) : s.ByTrib (s.lineEdge t b) t := by
  unfold State.lineEdge
  cases s.edgeKind t b with
  | ignored => exact (State.WithinTrib.refl s t).byTrib
  | leaveDark => exact (s.modRx_within t fun x => x.leaveDark b).byTrib
  | search => exact (s.modRx_within t fun x => x.searchBit b).byTrib
  | candidate => exact (s.modRx_within t fun x => x.candidate b).byTrib
  | verify => exact (s.modRx_within t fun x => x.verifyBit b).byTrib
  | verifyCheck => exact s.takeVerifyCheck_byTrib t b
  | sync => exact (s.modRx_within t fun x => x.syncBit b).byTrib
  | syncCheck => exact (s.takeSyncCheck_within t b).byTrib
  | payload => exact (s.takePayloadBit_within t b).byTrib
  | completion => exact s.takeCompletion_byTrib t b

end

/-! The statement -/

theorem State.takeBoundary_frame (s : State) (ej : Bool) : s.takeBoundary ej = { s.takeBoundary ej with
    pins := s.pins, straps := s.straps, counters := s.counters, pending := s.pending, inputs := s.inputs
    ftu := { (s.takeBoundary ej).ftu with
      crystal := s.ftu.crystal, integral := s.ftu.integral, history := s.ftu.history
      lastError := s.ftu.lastError, rangeRun := s.ftu.rangeRun }
    selector := { (s.takeBoundary ej).selector with buildOut := s.selector.buildOut }
    rail := { (s.takeBoundary ej).rail with
      bestGrade := s.rail.bestGrade, railError := s.rail.railError, leadSpread := s.rail.leadSpread
      backoff := s.rail.backoff, relabelStamps := s.rail.relabelStamps } } := by
  have h := s.takeBoundary_lasts ej
  generalize s.takeBoundary ej = u at h ⊢
  obtain ⟨h1, h2, h3, h4, h5, ⟨f1, f2, f3, f4, f5⟩, h6, ⟨r1, r2, r3, r4, r5⟩⟩ := h
  rw [← h1, ← h2, ← h3, ← h4, ← h5, ← f1, ← f2, ← f3, ← f4, ← f5, ← h6, ← r1, ← r2, ← r3, ← r4, ← r5]

/-- Settles O4, command by command. -/
theorem frames : Obligations.Frames := by
  refine ⟨fun s u ej h => ?boundary, fun s u h => ?close, fun s u r n h => ?reference, fun s u t b h => ?receiver⟩
  case boundary =>
    cases h
    cases hr : s.running with
    | false =>
      rw [whenRunning_reset hr]
      exact ⟨rfl, fun _ => ⟨rfl, rfl⟩, fun _ _ => ⟨rfl, fun _ _ => rfl⟩⟩
    | true =>
      rw [whenRunning_running hr]
      refine ⟨s.takeBoundary_frame ej, fun t => ?_, fun hw hp => ⟨?_, fun hd hj => s.takeBoundary_listen ej hw hp hd hj⟩⟩
      · rw [State.takeBoundary_trib]
        exact Trib.atBoundary_receiver ..
      · have h := s.takeBoundary_settled ej hw hp
        generalize s.takeBoundary ej = u at h ⊢
        obtain ⟨h1, h2, h3, h4, h5, h6, h7, h8, h9, h10⟩ := h
        rw [← h1, ← h2, ← h3, ← h4, ← h5, ← h6, ← h7, ← h8, ← h9, ← h10]
  case close =>
    cases h
    cases hr : s.running with
    | false => rw [whenRunning_reset hr]
    | true => rw [whenRunning_running hr]; exact s.takeClose_frame
  case reference =>
    rcases h with h | h <;> cases h <;> split
    · exact ⟨(s.takeAcceptedEdge_beside r n).frame, s.takeAcceptedEdge_other r n⟩
    · exact ⟨rfl, rfl⟩
    · exact ⟨(s.takeMissingEdge_beside r).frame, s.takeMissingEdge_other r⟩
    · exact ⟨rfl, rfl⟩
  case receiver =>
    have by_t : s.ByTrib u t := by
      rcases h with h | h <;> cases h
      · exact s.lineEdge_byTrib t b
      · split
        · exact (s.discard_within t _ _ _).byTrib
        · exact (State.WithinTrib.refl s t).byTrib
    exact ⟨by_t.beside, by_t.others⟩

end Sys2Proof.Machine
end

section
/-! PROOFS. What a tick finds (notes/assumptions/2.md): where each event comes from, what the tick advances, and
the queue that it leaves, source by source. -/

namespace Sys2Proof.Machine

/-! Where an event of a tick comes from -/

/-- The part of a tick that puts an event on the queue. -/
inductive EventSource where
  | pulse
  | rail
  | trib (t : TribId)
  | ref (r : RefId)
  | ej
  | mak
  | bit
  | frame
  | reset
  deriving DecidableEq

/-- The source of each command. -/
def source : Instr → EventSource
  | .resetAssertion => .reset
  | .resetRelease _ _ => .reset
  | .leaveDark t _ => .trib t
  | .darkEntry t => .trib t
  | .candidate t _ => .trib t
  | .verifyCheck t _ => .trib t
  | .syncOctetCheck t _ => .trib t
  | .frameCompletion t _ => .trib t
  | .officeBoundary _ => .frame
  | .measurementClose => .frame
  | .acceptedEdge r _ => .ref r
  | .missingEdge r => .ref r
  | .gradeStart => .rail
  | .pulseEnd _ => .pulse
  | .ejRisingEdge => .ej
  | .acknowledgement => .mak
  | .lineClockEdge t _ => .trib t
  | .railLineCapture _ _ _ => .rail
  | .officeBit _ _ => .bit

section
variable {s : State} {n : Nat} {i : TickInput} {c : Instr}

theorem State.tribSlot_source {t : TribId} (h : c ∈ s.tribSlot n i t) : source c = .trib t := by
  rcases s.tribSlot_only n i t c h with rfl | ⟨b, rfl | rfl | rfl | rfl | rfl | rfl⟩ <;> rfl

theorem State.refSlot_source {r : RefId} (h : c ∈ s.refSlot n r) : source c = .ref r := by
  rcases s.refSlot_only n r c h with rfl | rfl <;> rfl

theorem State.ejSlot_source {ej : Bool} (h : c ∈ s.ejSlot ej) : source c = .ej := by
  rw [s.ejSlot_only ej c h]; rfl

theorem State.makSlot_source (h : c ∈ s.makSlot) : source c = .mak := by
  rw [s.makSlot_only c h]; rfl

theorem State.bitSlot_source (h : c ∈ s.bitSlot) : source c = .bit := by
  obtain ⟨k, b, rfl⟩ := s.bitSlot_only c h; rfl

theorem State.endedPulses_source (h : c ∈ s.endedPulses) : source c = .pulse := by
  obtain ⟨line, rfl, -⟩ := (s.endedPulses_mem c).mp h; rfl

theorem State.readRail_source (h : c ∈ s.readRail.2) : source c = .rail := by
  rcases s.readRail_only c h with rfl | ⟨l, ch, k, rfl⟩ <;> rfl

theorem State.readBeat_source (h : c ∈ s.readBeat.2) : source c = .rail := by
  rcases s.readBeat_only c h with rfl | ⟨l, ch, k, rfl⟩ <;> rfl

/-- The groups besides boundary, close and rail hold no event of those. -/
theorem State.tickSlots_source {s' : State} (h : c ∈ (s.tickSlots s' n i).flatten) :
    (∃ t, source c = .trib t) ∨ (∃ r, source c = .ref r) ∨ source c = .ej ∨ source c = .mak := by
  rw [State.tickSlots_mem] at h
  rcases h with ⟨t, h⟩ | ⟨r, h⟩ | h | h
  · exact .inl ⟨t, State.tribSlot_source h⟩
  · exact .inr (.inl ⟨r, State.refSlot_source h⟩)
  · exact .inr (.inr (.inl (State.ejSlot_source h)))
  · exact .inr (.inr (.inr (State.makSlot_source h)))

end

/-! What a tick advances -/

section
variable (s : State) (p : InPins)

@[simp] theorem State.advance_straps : (s.advance p).straps = s.straps := by simp [State.advance]

@[simp] theorem State.advance_ftu :
    (s.advance p).ftu = { s.ftu with crystal := s.ftu.crystal + 1, tick := s.ftu.tick + 1 } := by
  simp [State.advance]

@[simp] theorem State.advance_rail : (s.advance p).rail = s.rail := by simp [State.advance]

@[simp] theorem State.advance_pins : (s.advance p).pins = { p with rstn := s.pins.rstn } := by simp [State.advance]

@[simp] theorem State.advance_listen : (s.advance p).listen = { s.listen with ejSampled := true } := by
  simp [State.advance]

@[simp] theorem State.advance_maint : (s.advance p).maint = s.maint.sampleMak p.mak := by simp [State.advance]

theorem State.advance_monitor (r : RefId) :
    (s.advance p).monitor r = (s.monitor r).tick (match r with | .refA => p.refA | .refB => p.refB) := by
  cases r <;> simp [State.advance, State.monitor]

end

theorem Maint.sampleMak_eq (m : Maint) (high : Bool) : m.sampleMak high = { m with
    makArmed := m.makArmed || !high
    makHigh := if high then (if m.makArmed then m.makHigh + 1 else m.makHigh) else 0 } := by
  obtain ⟨_, _, _, _, _, _, armed, _⟩ := m
  cases high <;> cases armed <;> rfl

/-- What a tick of a station out of reset writes, field by field. -/
theorem State.tickRunning_frame (s : State) (i : TickInput) (hp : i.pins.rstn = s.pins.rstn) :
    s.tickRunning i = { s with
      pins := i.pins
      ftu := { s.ftu with crystal := s.ftu.crystal + 1, tick := s.ftu.tick + 1 }
      tribs := (s.tickRunning i).tribs, monA := (s.tickRunning i).monA, monB := (s.tickRunning i).monB
      rail := { s.rail with caps := (s.tickRunning i).rail.caps }
      listen := { s.listen with ejSampled := true }
      maint := s.maint.sampleMak i.pins.mak
      pending := (s.tickRunning i).pending, choiceSeq := s.choiceSeq + 1 } := by
  have h := s.tickRunning_state i
  generalize s.tickRunning i = u at h ⊢
  have pins : u.pins = i.pins := (congrArg State.pins h).trans (by simp [← hp])
  have straps : u.straps = s.straps := (congrArg State.straps h).trans (by simp)
  have free : u.free = s.free := (congrArg State.free h).trans (by simp [State.advance])
  have counters : u.counters = s.counters := (congrArg State.counters h).trans (by simp [State.advance])
  have ftu := (congrArg State.ftu h).trans (s.advance_ftu i.pins)
  have selector : u.selector = s.selector := (congrArg State.selector h).trans (by simp [State.advance])
  have modes : u.modes = s.modes := (congrArg State.modes h).trans (by simp [State.advance])
  have rail : u.rail = { s.rail with caps := u.rail.caps } := congrArg State.rail h
  have listen := (congrArg State.listen h).trans (s.advance_listen i.pins)
  have flags : u.flags = s.flags := (congrArg State.flags h).trans (by simp [State.advance])
  have maint := (congrArg State.maint h).trans (s.advance_maint i.pins)
  have out : u.out = s.out := (congrArg State.out h).trans (by simp [State.advance])
  have inputs : u.inputs = s.inputs := (congrArg State.inputs h).trans (by simp [State.advance])
  have railDue : u.railDue = s.railDue := (congrArg State.railDue h).trans (by simp [State.advance])
  have choiceSeq : u.choiceSeq = s.choiceSeq + 1 := (congrArg State.choiceSeq h).trans (by simp [State.advance])
  rw [← maint, ← pins, ← straps, ← free, ← counters, ← ftu, ← selector, ← modes, ← rail, ← listen, ← flags, ← out,
    ← inputs, ← railDue, ← choiceSeq]

/-! The queue of a tick, up to its order -/

/-- The boundary group's reading of BEAT that is taken before the boundary, if any (R151). -/
def State.earlyFall (s : State) (n : Nat) : List Instr := if s.fallsEarly n then s.readBeat.2 else []

/-- The close of tick 2047 (R80). -/
def State.closeSlot (s : State) : List Instr :=
  if s.ftu.tick = Config.closeTick then [.measurementClose] else []

theorem State.tickBoundary_perm (s : State) (n : Nat) (ej : Bool) (slots : List (List Instr)) :
    (s.tickBoundary n ej slots).pending.Perm
      (s.endedPulses ++ (s.earlyFall n ++ (slots.flatten ++ [.officeBoundary ej, .gradeStart]))) := by
  unfold State.tickBoundary State.earlyFall
  dsimp only
  generalize (if s.fallsEarly n then s.readBeat.2 else []) = early
  rw [List.append_assoc]
  refine List.Perm.append_left _ ?_
  cases Config.fallApart n
  · refine (arrange_flatten_perm n _).trans ?_
    simp only [Bool.false_eq_true, if_false, List.flatten_append, List.flatten_cons, List.flatten_nil, List.append_nil]
    exact List.perm_append_comm_assoc ..
  · refine ((arrange_flatten_perm n _).append_left early).trans ?_
    simp

theorem State.tickWithin_perm (s : State) (n : Nat) (slots : List (List Instr)) :
    (s.tickWithin n slots).pending.Perm
      (s.endedPulses ++ (s.readRail.2 ++ (slots.flatten ++ (s.bitSlot ++ s.closeSlot)))) := by
  unfold State.tickWithin State.closeSlot
  dsimp only
  split
  · rw [List.append_assoc]
    refine ((arrange_flatten_perm n _).append_left _).append_left _ |>.trans ?_
    simp
  · refine ((arrange_flatten_perm n _).append_left _).trans (List.Perm.append_left _ ?_)
    simp only [List.flatten_append, List.flatten_cons, List.flatten_nil, List.append_nil]
    exact List.perm_append_comm

theorem State.tickRunning_boundary {s : State} (i : TickInput) (h : s.ftu.length ≤ s.ftu.tick + 1) :
    s.tickRunning i = (s.advance i.pins).tickBoundary s.choiceSeq (s.ejAtBoundary s.choiceSeq i.pins.ej)
      ((s.advance i.pins).tickSlots s s.choiceSeq i) := by
  unfold State.tickRunning
  dsimp only
  rw [if_pos (by simpa using h)]

theorem State.tickRunning_within {s : State} (i : TickInput) (h : s.ftu.tick + 1 < s.ftu.length) :
    s.tickRunning i = (s.advance i.pins).tickWithin s.choiceSeq
      ((s.advance i.pins).tickSlots s s.choiceSeq i) := by
  unfold State.tickRunning
  dsimp only
  rw [if_neg (by simpa using h)]

/-! Each event once -/

/-- An event that a tick may put on the queue once only: neither an edge nor a grade start. -/
def onceOnly : Instr → Bool
  | .leaveDark _ _ => false
  | .candidate _ _ => false
  | .verifyCheck _ _ => false
  | .syncOctetCheck _ _ => false
  | .frameCompletion _ _ => false
  | .lineClockEdge _ _ => false
  | .gradeStart => false
  | _ => true

/-- The queue holds none of these events twice. -/
def OnceIn (l : List Instr) : Prop := (l.filter onceOnly).Nodup

theorem OnceIn.nil : OnceIn [] := List.nodup_nil

theorem OnceIn.of_nodup {l : List Instr} (h : l.Nodup) : OnceIn l := h.filter _

theorem OnceIn.perm {l m : List Instr} (h : OnceIn m) (p : l.Perm m) : OnceIn l := (p.filter _).nodup_iff.mpr h

theorem OnceIn.count_le {l : List Instr} (h : OnceIn l) {c : Instr} (hc : onceOnly c = true) : l.count c ≤ 1 := by
  rw [← List.count_filter hc]
  exact List.nodup_iff_count_le_one.mp h c

/-- Two lists whose events come from different sources. -/
theorem OnceIn.append {l m : List Instr} (hl : OnceIn l) (hm : OnceIn m)
    (h : ∀ c ∈ l, ∀ d ∈ m, onceOnly d = true → source c ≠ source d) : OnceIn (l ++ m) := by
  unfold OnceIn
  rw [List.filter_append]
  refine List.Nodup.append hl hm fun c hcl hcm => ?_
  obtain ⟨hcm, ho⟩ := List.mem_filter.mp hcm
  exact h c (List.mem_filter.mp hcl).1 c hcm ho rfl

/-- Groups that each have a source of their own. -/
theorem OnceIn.groups {ι : Type} {l : List ι} (hl : l.Nodup) {g : ι → List Instr} {k : ι → EventSource}
    (hk : Function.Injective k) (hs : ∀ a, ∀ c ∈ g a, source c = k a) (ho : ∀ a, OnceIn (g a)) :
    OnceIn (l.map g).flatten := by
  induction l with
  | nil => exact .nil
  | cons a l ih =>
    obtain ⟨ha, hl⟩ := List.nodup_cons.mp hl
    refine (ho a).append (ih hl) fun c hc d hd _ => ?_
    obtain ⟨_, hx, hd⟩ := List.mem_flatten.mp hd
    obtain ⟨b, hb, rfl⟩ := List.mem_map.mp hx
    rw [hs a c hc, hs b d hd]
    exact fun e => ha (hk e ▸ hb)

section
variable (s : State) (n : Nat) (i : TickInput)

theorem State.tribSlot_once (t : TribId) : OnceIn (s.tribSlot n i t) := by
  have edges (f : Bool → Instr) (hf : ∀ b, onceOnly (f b) = false) (l : List Bool) :
      (l.map f).filter onceOnly = [] := by
    rw [List.filter_eq_nil_iff]
    intro c hc
    obtain ⟨b, -, rfl⟩ := List.mem_map.mp hc
    simp [hf]
  unfold State.tribSlot OnceIn
  dsimp only
  split
  · rw [List.filter_cons_of_pos rfl, edges _ (fun _ => rfl)]
    exact List.nodup_singleton _
  · rw [edges _ fun b => by cases s.edgeKind t b <;> rfl]
    exact List.nodup_nil

theorem State.refSlot_once (r : RefId) : OnceIn (s.refSlot n r) := by
  refine .of_nodup ?_
  unfold State.refSlot
  dsimp only
  (repeat' split) <;> simp

theorem State.tickSlots_once (s' : State) : OnceIn (s.tickSlots s' n i).flatten := by
  have tribs : OnceIn (allTribs.map (s.tribSlot n i)).flatten :=
    .groups allTribs_nodup (k := .trib) (fun _ _ h => by cases h; rfl) (fun _ _ h => State.tribSlot_source h)
      (s.tribSlot_once n i)
  have refs : OnceIn ([RefId.refA, .refB].map (s.refSlot n)).flatten :=
    .groups (by decide) (k := .ref) (fun _ _ h => by cases h; rfl) (fun _ _ h => State.refSlot_source h)
      (s.refSlot_once n)
  have ej : OnceIn (s'.ejSlot i.pins.ej) := .of_nodup (by unfold State.ejSlot; split <;> simp)
  have mak : OnceIn s.makSlot := .of_nodup (by unfold State.makSlot; split <;> simp)
  have e : (s.tickSlots s' n i).flatten = (allTribs.map (s.tribSlot n i)).flatten ++
      (([RefId.refA, .refB].map (s.refSlot n)).flatten ++ (s'.ejSlot i.pins.ej ++ s.makSlot)) := by
    simp [State.tickSlots]
  have fromTribs (c) (h : c ∈ (allTribs.map (s.tribSlot n i)).flatten) : ∃ t, source c = .trib t := by
    simp only [List.mem_flatten, List.mem_map] at h
    obtain ⟨_, ⟨t, -, rfl⟩, h⟩ := h
    exact ⟨t, State.tribSlot_source h⟩
  have fromRefs (c) (h : c ∈ ([RefId.refA, .refB].map (s.refSlot n)).flatten) : ∃ r, source c = .ref r := by
    simp only [List.mem_flatten, List.mem_map] at h
    obtain ⟨_, ⟨r, -, rfl⟩, h⟩ := h
    exact ⟨r, State.refSlot_source h⟩
  have fromPins (c) (h : c ∈ s'.ejSlot i.pins.ej ++ s.makSlot) : source c = .ej ∨ source c = .mak :=
    (List.mem_append.mp h).imp State.ejSlot_source State.makSlot_source
  rw [e]
  refine tribs.append (refs.append (ej.append mak fun c hc d hd _ => ?_) fun c hc d hd _ => ?_) fun c hc d hd _ => ?_
  · rw [State.ejSlot_source hc, State.makSlot_source hd]; decide
  · obtain ⟨r, hr⟩ := fromRefs c hc
    rcases fromPins d hd with h | h <;> simp [hr, h]
  · obtain ⟨t, ht⟩ := fromTribs c hc
    rcases List.mem_append.mp hd with hd | hd
    · obtain ⟨r, hr⟩ := fromRefs d hd
      simp [ht, hr]
    · rcases fromPins d hd with h | h <;> simp [ht, h]

theorem State.endedPulses_once : OnceIn s.endedPulses := by
  refine .of_nodup ?_
  unfold State.endedPulses
  exact ((by decide : [RailLine.beat, .grade, .lead].Nodup).filter _).map fun _ _ h => by cases h; rfl

/-- A reading of one line finds one change at most (R141). -/
theorem State.lineChanges_nodup (line : RailLine) : (s.lineChanges line).Nodup := by
  rw [State.lineChanges_eq]
  split
  · exact List.nodup_singleton _
  · exact List.nodup_nil

theorem State.lineChanges_line {s : State} {line : RailLine} {c : Instr} (h : c ∈ s.lineChanges line) :
    ∃ ch t, c = .railLineCapture line ch t := by
  rw [State.readLine_mem] at h
  exact ⟨_, _, h.2.2⟩

theorem State.readBeat_nodup : s.readBeat.2.Nodup := by
  rw [State.readBeat_eq]
  dsimp only
  split
  · refine (s.lineChanges_nodup .beat).append (List.nodup_singleton _) fun c hc hg => ?_
    obtain ⟨ch, t, rfl⟩ := State.lineChanges_line hc
    simp at hg
  · exact s.lineChanges_nodup .beat

/-- The three lines are read one by one: BEAT with its grade start, LEAD and GRADE (R135). -/
theorem State.readRail_events :
    s.readRail.2 = s.readBeat.2 ++ (s.lineChanges .lead ++ s.lineChanges .grade) := by
  have lead := (s.readLine_other .beat .lead (by decide)).2
  have grade := (s.readLine_other .beat .grade (by decide)).2
  have grade' := ((s.readLine .beat).1.readLine_other .lead .grade (by decide)).2
  have e : s.readRail.2 = s.readBeat.2 ++ (s.readLine .beat).1.lineChanges .lead ++
      ((s.readLine .beat).1.readLine .lead).1.lineChanges .grade := rfl
  rw [e, grade', grade, lead, List.append_assoc]

theorem State.readRail_nodup : s.readRail.2.Nodup := by
  rw [State.readRail_events]
  have beat {c : Instr} (h : c ∈ s.readBeat.2) : c = .gradeStart ∨ ∃ ch t, c = .railLineCapture .beat ch t := by
    rw [State.readBeat_eq] at h
    dsimp only at h
    split at h
    · rcases List.mem_append.mp h with h | h
      · exact .inr (State.lineChanges_line h)
      · exact .inl (List.mem_singleton.mp h)
    · exact .inr (State.lineChanges_line h)
  refine s.readBeat_nodup.append ((s.lineChanges_nodup .lead).append (s.lineChanges_nodup .grade) fun c h1 h2 => ?_)
    fun c h1 h2 => ?_
  · obtain ⟨ch, t, rfl⟩ := State.lineChanges_line h1
    obtain ⟨ch', t', h⟩ := State.lineChanges_line h2
    cases h
  · have other : ∃ line ch t, line ≠ .beat ∧ c = .railLineCapture line ch t := by
      rcases List.mem_append.mp h2 with h2 | h2
      · obtain ⟨ch, t, h⟩ := State.lineChanges_line h2
        exact ⟨_, ch, t, by decide, h⟩
      · obtain ⟨ch, t, h⟩ := State.lineChanges_line h2
        exact ⟨_, ch, t, by decide, h⟩
    obtain ⟨line, ch, t, hl, rfl⟩ := other
    rcases beat h1 with h | ⟨ch', t', h⟩
    · cases h
    · cases h; exact hl rfl

/-- The parts of a tick's queue: ended pulses, the rail, the other groups, and bit, boundary or close. -/
theorem State.tickParts_once (s' : State) {rail rest : List Instr} (hrail : OnceIn rail)
    (fromRail : ∀ c ∈ rail, source c = .rail) (hrest : OnceIn rest)
    (fromRest : ∀ c ∈ rest, onceOnly c = true → source c = .bit ∨ source c = .frame) :
    OnceIn (s.endedPulses ++ (rail ++ ((s.tickSlots s' n i).flatten ++ rest))) := by
  refine s.endedPulses_once.append (hrail.append ((s.tickSlots_once n i s').append hrest
    fun c hc d hd ho => ?_) fun c hc d hd ho => ?_) fun c hc d hd ho => ?_
  · rcases State.tickSlots_source hc with ⟨t, h⟩ | ⟨r, h⟩ | h | h <;> rcases fromRest d hd ho with g | g <;> simp [h, g]
  · rw [fromRail c hc]
    rcases List.mem_append.mp hd with hd | hd
    · rcases State.tickSlots_source hd with ⟨t, h⟩ | ⟨r, h⟩ | h | h <;> simp [h]
    · rcases fromRest d hd ho with g | g <;> simp [g]
  · rw [State.endedPulses_source hc]
    rcases List.mem_append.mp hd with hd | hd
    · simp [fromRail d hd]
    rcases List.mem_append.mp hd with hd | hd
    · rcases State.tickSlots_source hd with ⟨t, h⟩ | ⟨r, h⟩ | h | h <;> simp [h]
    · rcases fromRest d hd ho with g | g <;> simp [g]

theorem State.closeSlot_source {s : State} {c : Instr} (h : c ∈ s.closeSlot) : c = .measurementClose := by
  unfold State.closeSlot at h
  split at h <;> simp at h
  exact h

theorem State.earlyFall_mem {s : State} {n : Nat} {c : Instr} (h : c ∈ s.earlyFall n) : c ∈ s.readBeat.2 := by
  unfold State.earlyFall at h
  split at h
  · exact h
  · cases h

/-- A tick puts each of its events on the queue once, but for edges and GRADE_START. -/
theorem State.tickRunning_once : OnceIn (s.tickRunning i).pending := by
  rcases Nat.lt_or_ge (s.ftu.tick + 1) s.ftu.length with h | h
  · rw [State.tickRunning_within i h]
    refine .perm (State.tickParts_once _ _ _ _ (.of_nodup (State.readRail_nodup _))
      (fun c => State.readRail_source) ?_ fun c hc _ => ?_) (State.tickWithin_perm ..)
    · have bit : OnceIn (s.advance i.pins).bitSlot := .of_nodup (by unfold State.bitSlot; dsimp only; split <;> simp)
      have close : OnceIn (s.advance i.pins).closeSlot := .of_nodup (by unfold State.closeSlot; split <;> simp)
      refine bit.append close fun c hc d hd _ => ?_
      rw [State.bitSlot_source hc, State.closeSlot_source hd]
      decide
    · rcases List.mem_append.mp hc with hc | hc
      · exact .inl (State.bitSlot_source hc)
      · rw [State.closeSlot_source hc]; exact .inr rfl
  · rw [State.tickRunning_boundary i h]
    refine .perm (State.tickParts_once _ _ _ _ ?_ (fun c hc => State.readBeat_source (State.earlyFall_mem hc)) ?_
      fun c hc ho => ?_) (State.tickBoundary_perm ..)
    · unfold State.earlyFall
      split
      · exact .of_nodup (State.readBeat_nodup _)
      · exact .nil
    · exact .of_nodup (by simp)
    · simp only [List.mem_cons, List.not_mem_nil, or_false] at hc
      rcases hc with rfl | rfl
      · exact .inr rfl
      · cases ho

end

/-! Edges, bit by bit (R3) -/

/-- The bit that a command delivers to a tributary. -/
def edgeBit (t : TribId) : Instr → Option Bool
  | .lineClockEdge v b => if v = t then some b else none
  | .leaveDark v b => if v = t then some b else none
  | .candidate v b => if v = t then some b else none
  | .verifyCheck v b => if v = t then some b else none
  | .syncOctetCheck v b => if v = t then some b else none
  | .frameCompletion v b => if v = t then some b else none
  | _ => none

theorem edgeBit_source {t : TribId} {c : Instr} {b : Bool} (h : edgeBit t c = some b) : source c = .trib t := by
  cases c <;> simp [edgeBit] at h <;> simp [source, h.1]

/-- What is neither an edge nor a grade start comes once. -/
theorem onceOnly_of_edgeBit {c : Instr} (h : ∀ t, edgeBit t c = none) (hg : c ≠ .gradeStart) :
    onceOnly c = true := by
  cases c
  case leaveDark t b => simpa [edgeBit] using h t
  case candidate t b => simpa [edgeBit] using h t
  case verifyCheck t b => simpa [edgeBit] using h t
  case syncOctetCheck t b => simpa [edgeBit] using h t
  case frameCompletion t b => simpa [edgeBit] using h t
  case lineClockEdge t b => simpa [edgeBit] using h t
  case gradeStart => exact absurd rfl hg
  all_goals rfl

/-- A list without events of tributary t delivers it no bit. -/
theorem filterMap_edgeBit_nil {t : TribId} {l : List Instr} (h : ∀ c ∈ l, source c ≠ .trib t) :
    l.filterMap (edgeBit t) = [] := by
  rw [List.filterMap_eq_nil_iff]
  intro c hc
  cases e : edgeBit t c with
  | none => rfl
  | some b => exact absurd (edgeBit_source e) (h c hc)

/-- Commands that name one edge each deliver the bits in order. -/
theorem filterMap_edgeBit_map {t : TribId} {f : Bool → Instr} (hf : ∀ b, edgeBit t (f b) = some b) (l : List Bool) :
    (l.map f).filterMap (edgeBit t) = l := by
  rw [List.filterMap_map, show edgeBit t ∘ f = some from funext hf, List.filterMap_some]

theorem State.tribSlot_bits (s : State) (n : Nat) (i : TickInput) (t : TribId) :
    (s.tribSlot n i t).filterMap (edgeBit t) = i.bitsOf t := by
  unfold State.tribSlot
  dsimp only
  split
  · rw [List.filterMap_cons_none rfl]
    exact filterMap_edgeBit_map (fun b => by simp [edgeBit]) _
  · exact filterMap_edgeBit_map (fun b => by cases s.edgeKind t b <;> simp [edgeCommand, edgeBit]) _

theorem State.tribSlot_bits_ne (s : State) (n : Nat) (i : TickInput) {t v : TribId} (h : v ≠ t) :
    (s.tribSlot n i v).filterMap (edgeBit t) = [] :=
  filterMap_edgeBit_nil fun c hc => by rw [State.tribSlot_source hc]; simpa using h

/-- Of groups indexed without repeats, the one that a reading finds anything in. -/
theorem filterMap_flatten_single {ι α : Type} {l : List ι} (hl : l.Nodup) {a : ι} (ha : a ∈ l)
    {g : ι → List Instr} {f : Instr → Option α} (h : ∀ b, b ≠ a → (g b).filterMap f = []) :
    (l.map g).flatten.filterMap f = (g a).filterMap f := by
  induction l with
  | nil => cases ha
  | cons b l ih =>
    obtain ⟨hb, hl⟩ := List.nodup_cons.mp hl
    rw [List.map_cons, List.flatten_cons, List.filterMap_append]
    rcases List.mem_cons.mp ha with rfl | ha
    · have rest : (l.map g).flatten.filterMap f = [] := by
        rw [List.filterMap_eq_nil_iff]
        intro c hc
        obtain ⟨_, hx, hc⟩ := List.mem_flatten.mp hc
        obtain ⟨d, hd, rfl⟩ := List.mem_map.mp hx
        exact List.filterMap_eq_nil_iff.mp (h d fun e => hb (e ▸ hd)) c hc
      rw [rest, List.append_nil]
    · rw [h b fun e => hb (e ▸ ha), ih hl ha, List.nil_append]

/-- In an arrangement of a tick's groups tributary t's own group keeps its bits and their order. -/
theorem arrange_bits (s s' : State) (n : Nat) (i : TickInput) (t : TribId) {more : List (List Instr)}
    (h : ∀ x ∈ more, ∀ c ∈ x, source c ≠ .trib t) :
    (arrange n (s.tickSlots s' n i ++ more)).flatten.filterMap (edgeBit t) = i.bitsOf t := by
  have none : ∀ x ∈ [s.refSlot n .refA, s.refSlot n .refB, s'.ejSlot i.pins.ej, s.makSlot] ++ more,
      x.filterMap (edgeBit t) = [] := by
    intro x hx
    refine filterMap_edgeBit_nil fun c hc => ?_
    simp only [List.mem_append, List.mem_cons, List.not_mem_nil, or_false] at hx
    rcases hx with (rfl | rfl | rfl | rfl) | hx
    · rw [State.refSlot_source hc]; nofun
    · rw [State.refSlot_source hc]; nofun
    · rw [State.ejSlot_source hc]; nofun
    · rw [State.makSlot_source hc]; nofun
    · exact h x hx c hc
  unfold State.tickSlots
  rw [List.append_assoc]
  generalize [s.refSlot n .refA, s.refSlot n .refB, s'.ejSlot i.pins.ej, s.makSlot] ++ more = extra at none
  have rest : extra.flatten.filterMap (edgeBit t) = [] := by
    rw [List.filterMap_eq_nil_iff]
    intro c hc
    obtain ⟨x, hx, hc⟩ := List.mem_flatten.mp hc
    exact List.filterMap_eq_nil_iff.mp (none x hx) c hc
  have apart : (allTribs.map (s.tribSlot n i) ++ extra).Pairwise
      fun x y => x.filterMap (edgeBit t) = [] ∨ y.filterMap (edgeBit t) = [] := by
    refine List.pairwise_append.mpr ⟨List.pairwise_map.mpr (allTribs_nodup.imp fun {v w} hne => ?_),
      List.pairwise_of_forall_mem_list fun x hx _ _ => .inl (none x hx), fun _ _ y hy => .inr (none y hy)⟩
    by_cases hv : v = t
    · exact .inr (s.tribSlot_bits_ne n i fun hw => hne (hv.trans hw.symm))
    · exact .inl (s.tribSlot_bits_ne n i hv)
  rw [arrange_filterMap _ _ _ apart, List.flatten_append, List.filterMap_append, rest, List.append_nil,
    filterMap_flatten_single allTribs_nodup (allTribs_mem t) fun v hv => s.tribSlot_bits_ne n i hv,
    s.tribSlot_bits n i t]

/-- The edge commands of a tick deliver exactly the bits that the script lists, in order (R3). -/
theorem State.tickRunning_bits (s : State) (i : TickInput) (t : TribId) :
    (s.tickRunning i).pending.filterMap (edgeBit t) = i.bitsOf t := by
  have pulses : (s.advance i.pins).endedPulses.filterMap (edgeBit t) = [] :=
    filterMap_edgeBit_nil fun c hc => by rw [State.endedPulses_source hc]; nofun
  have fromBit (c) (hc : c ∈ (s.advance i.pins).bitSlot) : source c ≠ .trib t := by
    rw [State.bitSlot_source hc]; nofun
  have fromRail (c) (hc : c ∈ (s.advance i.pins).readRail.2) : source c ≠ .trib t := by
    rw [State.readRail_source hc]; nofun
  rcases Nat.lt_or_ge (s.ftu.tick + 1) s.ftu.length with h | h
  · rw [State.tickRunning_within i h]
    unfold State.tickWithin
    dsimp only
    split
    · simp only [List.filterMap_append, pulses, filterMap_edgeBit_nil fromRail, List.nil_append, List.append_assoc]
      refine arrange_bits _ _ _ _ _ fun x hx => ?_
      simp only [List.mem_append, List.mem_singleton] at hx
      rcases hx with rfl | rfl
      · exact fromBit
      · intro c hc; rw [List.mem_singleton.mp hc]; nofun
    · simp only [List.filterMap_append, pulses, List.nil_append, List.append_assoc]
      refine arrange_bits _ _ _ _ _ fun x hx => ?_
      simp only [List.mem_append, List.mem_singleton] at hx
      rcases hx with rfl | rfl
      · exact fromBit
      · exact fromRail
  · rw [State.tickRunning_boundary i h]
    have early : ∀ c ∈ (s.advance i.pins).earlyFall s.choiceSeq, source c ≠ .trib t := fun c hc => by
      rw [State.readBeat_source (State.earlyFall_mem hc)]; nofun
    unfold State.tickBoundary
    dsimp only
    rw [show (if (s.advance i.pins).fallsEarly s.choiceSeq then (s.advance i.pins).readBeat.2 else []) =
      (s.advance i.pins).earlyFall s.choiceSeq from rfl]
    generalize (s.advance i.pins).earlyFall s.choiceSeq = l at early
    have first : (if Config.fallApart s.choiceSeq then l else []).filterMap (edgeBit t) = [] := by
      split
      · exact filterMap_edgeBit_nil early
      · rfl
    simp only [List.filterMap_append, pulses, first, List.nil_append, List.append_assoc]
    refine arrange_bits _ _ _ _ _ fun x hx c hc => ?_
    rw [List.mem_singleton.mp hx] at hc
    simp only [List.mem_append, List.mem_cons, List.not_mem_nil, or_false] at hc
    rcases hc with hc | rfl | rfl
    · split at hc
      · cases hc
      · exact early c hc
    · nofun
    · nofun

end Sys2Proof.Machine
end

section
/-! PROOFS. A tick's events one by one: the rail, boundary and close, the tributaries, the references and the other
pins, and the ticks of reset (notes/assumptions/2.md). -/

namespace Sys2Proof.Machine

/-! The rail as a tick reads it -/

/-- The captures and events of a state u that has read the three lines as they stood in v (R135, R139, R141). -/
def ReadsRail (v u : State) : Prop :=
  (∀ line,
    (v.linePosition line v.ftu.tick = none →
      u.rail.caps.get line = v.rail.caps.get line ∧
      ∀ ch t, Instr.railLineCapture line ch t ∉ u.pending) ∧
    (v.linePosition line v.ftu.tick ≠ none →
      u.rail.caps.get line = { v.rail.caps.get line with
        low := some (v.lineLow line)
        sawLow := (v.rail.caps.get line).sawLow || v.lineLow line } ∧
      ∀ ch t, Instr.railLineCapture line ch t ∈ u.pending ↔
        t = v.ftu.tick ∧ (v.rail.caps.get line).low = some (!v.lineLow line) ∧
          (ch = .fall ↔ v.lineLow line = true))) ∧
  u.rail.caps.gradeStart = v.rail.caps.gradeStart ∧ u.rail.caps.pulseGrade = v.rail.caps.pulseGrade ∧
  u.rail.caps.markBroken = v.rail.caps.markBroken ∧
  (Instr.gradeStart ∈ u.pending ↔ v.rail.caps.gradeStart = none ∧
    (v.rail.caps.beat.firstFall.isSome = true ∨
      Instr.railLineCapture .beat .fall v.ftu.tick ∈ u.pending))

theorem State.lineChanges_capture (s : State) (line l : RailLine) (ch : LineChange) (t : Nat) :
    .railLineCapture l ch t ∈ s.lineChanges line ↔ l = line ∧ s.linePosition line s.ftu.tick ≠ none ∧
      t = s.ftu.tick ∧ (s.rail.caps.get line).low = some (!s.lineLow line) ∧
      (ch = .fall ↔ s.lineLow line = true) := by
  rw [State.readLine_mem, ← Option.isSome_iff_ne_none, Instr.railLineCapture.injEq]
  cases s.lineLow line <;> cases ch <;> simp <;> tauto

theorem State.readRail_capture (s : State) (line : RailLine) (ch : LineChange) (t : Nat) :
    .railLineCapture line ch t ∈ s.readRail.2 ↔ .railLineCapture line ch t ∈ s.lineChanges line := by
  rw [State.readRail_mem]
  constructor
  · rintro (⟨l, h⟩ | ⟨h, -⟩)
    · have hl := ((s.lineChanges_capture l line ch t).mp h).1
      exact hl ▸ h
    · cases h
  · exact fun h => .inl ⟨line, h⟩

theorem State.readRail_gradeStart (s : State) : .gradeStart ∈ s.readRail.2 ↔ s.startsGrade = true := by
  rw [State.readRail_mem]
  constructor
  · rintro (⟨l, h⟩ | ⟨-, h⟩)
    · obtain ⟨ch, t, h⟩ := State.lineChanges_line h
      cases h
    · exact h
  · exact fun h => .inr ⟨rfl, h⟩

/-- One reading finds one change at most, so that it finds a fall when the fall is all that it finds. -/
theorem State.lineChanges_eq_fall (s : State) :
    s.lineChanges .beat = [.railLineCapture .beat .fall s.ftu.tick] ↔
      .railLineCapture .beat .fall s.ftu.tick ∈ s.lineChanges .beat := by
  constructor
  · intro h; rw [h]; exact List.mem_singleton_self _
  · intro h
    rw [State.lineChanges_eq] at h ⊢
    split at h
    · rename_i hc
      rw [if_pos hc, List.mem_singleton.mp h]
    · cases h

theorem State.startsGrade_iff (s : State) : s.startsGrade = true ↔ s.rail.caps.gradeStart = none ∧
    (s.rail.caps.beat.firstFall.isSome = true ∨
      .railLineCapture .beat .fall s.ftu.tick ∈ s.lineChanges .beat) := by
  unfold State.startsGrade
  rw [← State.lineChanges_eq_fall]
  simp

/-- The captures of a line after all three are read. -/
theorem State.readRail_caps (s : State) (line : RailLine) :
    s.readRail.1.rail.caps.get line = s.lineRead line := by
  rw [State.readRail_state]
  cases line <;> rfl

/-- A state whose captures and rail events are those of the reading has read the rail. -/
theorem ReadsRail.of_readRail {v u : State} (caps : u.rail.caps = v.readRail.1.rail.caps)
    (mem : ∀ c, source c = .rail → (c ∈ u.pending ↔ c ∈ v.readRail.2)) : ReadsRail v u := by
  have captures (line ch t) : .railLineCapture line ch t ∈ u.pending ↔
      .railLineCapture line ch t ∈ v.lineChanges line := (mem _ rfl).trans (v.readRail_capture ..)
  refine ⟨fun line => ⟨fun hp => ⟨?_, fun ch t h => ?_⟩, fun hp => ⟨?_, fun ch t => ?_⟩⟩, ?_, ?_, ?_, ?_⟩
  · rw [caps, v.readRail_caps, State.lineRead, hp]
  · rw [captures, State.lineChanges_capture] at h
    exact h.2.1 hp
  · obtain ⟨p, hp⟩ := Option.ne_none_iff_exists'.mp hp
    rw [caps, v.readRail_caps, State.lineRead, hp]
  · rw [captures, State.lineChanges_capture]
    exact ⟨fun ⟨_, _, h⟩ => h, fun h => ⟨rfl, hp, h⟩⟩
  · rw [caps, State.readRail_state]; rfl
  · rw [caps, State.readRail_state]; rfl
  · rw [caps, State.readRail_state]; rfl
  · rw [mem _ rfl, State.readRail_gradeStart, State.startsGrade_iff, captures]

/-- What the queue holds does not matter to the reading. -/
theorem ReadsRail.queue {v u : State} (h : ReadsRail v u) (p : List Instr) : ReadsRail { v with pending := p } u := h

/-- The rail of a boundary's tick, read once the boundary is taken (R135, R139). -/
theorem State.idle_railDue {s : State} (h : s.railDue = true) :
    ReadsRail s s.idle ∧ s.idle.pending.Nodup ∧
      (∀ c ∈ s.idle.pending, c = .gradeStart ∨ ∃ line ch t, c = .railLineCapture line ch t) ∧
      s.idle = { s with
        railDue := false, pending := s.idle.pending, rail := { s.rail with caps := s.idle.rail.caps } } := by
  have e : s.idle = { (({ s with railDue := false } : State).readRail).1 with
      pending := (({ s with railDue := false } : State).readRail).2 } := by
    unfold State.idle
    rw [if_pos h]
  refine ⟨?_, ?_, ?_, ?_⟩
  · have r : ReadsRail ({ s with railDue := false } : State) s.idle :=
      .of_readRail (by rw [e]) fun c _ => by rw [e]
    exact r
  · rw [e]; exact State.readRail_nodup _
  · rw [e]; exact State.readRail_only _
  · rw [e, State.readRail_state]; rfl

/-! Boundary, close, office bits and the rail -/

/-- An event that is neither a pulse's end nor in one of the groups of a tick. -/
def OffSlots (c : Instr) : Prop := source c = .frame ∨ source c = .bit ∨ source c = .rail

section
variable {s : State} {i : TickInput} {c : Instr}

theorem OffSlots.not_pulse (h : OffSlots c) : c ∉ s.endedPulses := fun hc => by
  unfold OffSlots at h
  simp [State.endedPulses_source hc] at h

theorem OffSlots.not_slot (h : OffSlots c) {s' : State} {n : Nat} : c ∉ (s.tickSlots s' n i).flatten := fun hc => by
  unfold OffSlots at h
  rcases State.tickSlots_source hc with ⟨_, e⟩ | ⟨_, e⟩ | e | e <;> simp [e] at h

theorem State.tickRunning_boundary_mem (h : s.ftu.length ≤ s.ftu.tick + 1) (hc : OffSlots c) :
    c ∈ (s.tickRunning i).pending ↔
      ((s.advance i.pins).fallsEarly s.choiceSeq = true ∧ c ∈ (s.advance i.pins).readBeat.2) ∨
      c = .officeBoundary (s.ejAtBoundary s.choiceSeq i.pins.ej) ∨ c = .gradeStart := by
  rw [State.tickRunning_boundary i h, State.tickBoundary_mem]
  simp only [hc.not_pulse, hc.not_slot, false_or]

theorem State.tickRunning_within_mem (h : s.ftu.tick + 1 < s.ftu.length) (hc : OffSlots c) :
    c ∈ (s.tickRunning i).pending ↔ c ∈ (s.advance i.pins).readRail.2 ∨ c ∈ (s.advance i.pins).bitSlot ∨
      (s.ftu.tick + 1 = Config.closeTick ∧ c = .measurementClose) := by
  rw [State.tickRunning_within i h, State.tickWithin_mem]
  simp only [hc.not_pulse, hc.not_slot, false_or, State.advance_ftu]

/-- A boundary's tick holds one boundary, GRADE_START directly after it (R80, R139). -/
theorem State.tickRunning_takes_boundary (h : s.ftu.length ≤ s.ftu.tick + 1) :
    ∃ (ej : Bool) (l r : List Instr), (s.tickRunning i).pending = l ++ .officeBoundary ej :: .gradeStart :: r ∧
      (∀ e, Instr.officeBoundary e ∉ l ++ r) ∧
      (i.pins.ej = true → ej = true) ∧ (s.pins.ej = false → i.pins.ej = false → ej = false) := by
  obtain ⟨l, r, e⟩ : ∃ l r, (s.tickRunning i).pending =
      l ++ .officeBoundary (s.ejAtBoundary s.choiceSeq i.pins.ej) :: .gradeStart :: r := by
    rw [State.tickRunning_boundary i h]
    unfold State.tickBoundary
    dsimp only
    generalize (if Config.fallApart s.choiceSeq then [] else _ : List Instr) = early
    generalize s.ejAtBoundary s.choiceSeq i.pins.ej = ej
    generalize (s.advance i.pins).tickSlots s s.choiceSeq i = slots
    obtain ⟨a, b, hab⟩ := arrange_group s.choiceSeq (slots ++ [early ++ [.officeBoundary ej, .gradeStart]])
      (early ++ [.officeBoundary ej, .gradeStart]) (by simp) (by simp)
    have split (p : List Instr) : ∃ l r,
        p ++ (a ++ (early ++ [.officeBoundary ej, .gradeStart]) ++ b) = l ++ .officeBoundary ej :: .gradeStart :: r :=
      ⟨p ++ (a ++ early), b, by simp⟩
    rw [hab]
    exact split _
  refine ⟨_, l, r, e, fun ej hej => ?_, ?_, ?_⟩
  · have mem : .officeBoundary ej ∈ (s.tickRunning i).pending := by
      rw [e]
      simp only [List.mem_append, List.mem_cons] at hej ⊢
      tauto
    have same : ej = s.ejAtBoundary s.choiceSeq i.pins.ej := by
      rcases (State.tickRunning_boundary_mem h (.inl rfl)).mp mem with ⟨-, g⟩ | g | g
      · cases State.readBeat_source g
      · cases g; rfl
      · cases g
    have once := (s.tickRunning_once i).count_le (c := .officeBoundary ej) rfl
    have again := List.one_le_count_iff.mpr hej
    rw [e, ← same] at once
    simp only [List.count_append, List.count_cons, beq_self_eq_true, if_true] at once again
    omega
  · intro g; simp [State.ejAtBoundary, g]
  · intro g1 g2; simp [State.ejAtBoundary, g1, g2]

/-- Captures that a reading of BEAT finds. -/
theorem State.readBeat_capture (s : State) (line : RailLine) (ch : LineChange) (t : Nat) :
    .railLineCapture line ch t ∈ s.readBeat.2 ↔ .railLineCapture line ch t ∈ s.lineChanges .beat := by
  rw [State.readBeat_eq]
  dsimp only
  split <;> simp

/-- The fall of BEAT that may be taken before the boundary (R151): the line was read high and reads low. -/
theorem State.fallsEarly_fall {n : Nat} (h : s.fallsEarly n = true) :
    s.linePosition .beat s.ftu.tick ≠ none ∧ s.rail.caps.beat.low = some false ∧ s.lineLow .beat = true := by
  unfold State.fallsEarly at h
  rw [Bool.and_eq_true, List.contains_iff_mem, State.readBeat_capture, State.lineChanges_capture] at h
  obtain ⟨-, -, pos, -, low, fall⟩ := h
  have lineLow := fall.mp rfl
  rw [lineLow] at low
  exact ⟨pos, low, lineLow⟩

theorem State.tickRunning_boundary_rail (h : s.ftu.length ≤ s.ftu.tick + 1) :
    ((s.tickRunning i).rail.caps = s.rail.caps ∧
        (∀ line ch t, Instr.railLineCapture line ch t ∉ (s.tickRunning i).pending) ∨
      (s.tickRunning i).rail.caps = { s.rail.caps with
        beat := { s.rail.caps.beat with low := some true, sawLow := true } } ∧
      s.rail.caps.beat.low = some false ∧ (s.tickRunning i).lineLow .beat = true ∧
      (∀ line ch t, Instr.railLineCapture line ch t ∈ (s.tickRunning i).pending ↔
        line = .beat ∧ ch = .fall ∧ t = s.ftu.tick + 1)) := by
  have mem (line ch t) : Instr.railLineCapture line ch t ∈ (s.tickRunning i).pending ↔
      (s.advance i.pins).fallsEarly s.choiceSeq = true ∧
        .railLineCapture line ch t ∈ (s.advance i.pins).lineChanges .beat := by
    rw [State.tickRunning_boundary_mem h (.inr (.inr rfl)), State.readBeat_capture]
    simp
  have caps : (s.tickRunning i).rail.caps = (if (s.advance i.pins).fallsEarly s.choiceSeq then
      (s.advance i.pins).readBeat.1 else s.advance i.pins).rail.caps := by
    rw [State.tickRunning_boundary i h]; rfl
  have low : (s.tickRunning i).lineLow .beat = (s.advance i.pins).lineLow .beat := by
    have state := s.tickRunning_state i
    rw [← s.advance_rail i.pins] at state
    rw [state]
    rfl
  cases early : (s.advance i.pins).fallsEarly s.choiceSeq with
  | false =>
    refine .inl ⟨by rw [caps, early]; simp, fun line ch t hc => ?_⟩
    rw [mem, early] at hc
    cases hc.1
  | true =>
    obtain ⟨pos, high, isLow⟩ := State.fallsEarly_fall early
    obtain ⟨p, hp⟩ := Option.ne_none_iff_exists'.mp pos
    refine .inr ⟨?_, by simpa using high, low.trans isLow, fun line ch t => ?_⟩
    · rw [caps, early, if_pos rfl, State.readBeat_eq, State.readLine_state, State.lineRead, hp, isLow]
      simp [State.setCaps, Captures.put, Captures.get]
    · rw [mem, State.lineChanges_capture, early, isLow]
      have high : ((s.advance i.pins).rail.caps.get .beat).low = some false := high
      simp only [high, ne_eq, State.advance_ftu, Bool.not_true, true_and, iff_true]
      tauto

/-- The office bits of a tick within a frame (R58, R59). -/
theorem State.tickRunning_officeBit (h : s.ftu.tick + 1 < s.ftu.length) (k : Nat) (half : Bool) :
    Instr.officeBit k half ∈ (s.tickRunning i).pending ↔
      s.ftu.tick + 1 = 16 * k + (if half then 8 else 0) ∧
        (k ≤ 255 ∨ k = 256 ∧ half = false ∧ s.listen.phase = .joinFrame) := by
  have bit := (s.advance i.pins).bitSlot_mem (by simpa using h) k half
  have rail : Instr.officeBit k half ∉ (s.advance i.pins).readRail.2 := fun g => by cases State.readRail_source g
  rw [State.tickRunning_within_mem h (.inr (.inl rfl)), bit]
  simp [rail]

/-- The close falls at tick 2047 (R80). -/
theorem State.tickRunning_close (h : s.ftu.tick + 1 < s.ftu.length) :
    Instr.measurementClose ∈ (s.tickRunning i).pending ↔ s.ftu.tick = 2046 := by
  have bit : Instr.measurementClose ∉ (s.advance i.pins).bitSlot := fun g => by cases State.bitSlot_source g
  have rail : Instr.measurementClose ∉ (s.advance i.pins).readRail.2 := fun g => by cases State.readRail_source g
  rw [State.tickRunning_within_mem h (.inl rfl)]
  simp [bit, rail, Config.closeTick]

theorem State.tickRunning_no_boundary (h : s.ftu.tick + 1 < s.ftu.length) (ej : Bool) :
    Instr.officeBoundary ej ∉ (s.tickRunning i).pending := by
  rw [State.tickRunning_within_mem h (.inl rfl)]
  rintro (g | g | ⟨-, g⟩)
  · cases State.readRail_source g
  · cases State.bitSlot_source g
  · cases g

theorem State.tickRunning_no_close (h : s.ftu.length ≤ s.ftu.tick + 1) :
    Instr.measurementClose ∉ (s.tickRunning i).pending := by
  rw [State.tickRunning_boundary_mem h (.inl rfl)]
  rintro (⟨-, g⟩ | g | g)
  · cases State.readBeat_source g
  · cases g
  · cases g

theorem State.tickRunning_no_officeBit (h : s.ftu.length ≤ s.ftu.tick + 1) (k : Nat) (half : Bool) :
    Instr.officeBit k half ∉ (s.tickRunning i).pending := by
  rw [State.tickRunning_boundary_mem h (.inr (.inl rfl))]
  rintro (⟨-, g⟩ | g | g)
  · cases State.readBeat_source g
  · cases g
  · cases g

/-- What follows an event that the first of two lists does not hold comes from the second. -/
theorem mem_of_append_eq_of_not_mem {a b l r : List Instr} {x : Instr} (h : a ++ b = l ++ x :: r) (hx : x ∉ a) :
    ∀ c ∈ r, c ∈ b := by
  rcases List.append_eq_append_iff.mp h with ⟨l', -, e⟩ | ⟨a', e, e'⟩
  · intro c hc
    rw [e]
    exact List.mem_append_right _ (List.mem_cons_of_mem _ hc)
  · cases a' with
    | nil =>
      intro c hc
      rw [List.nil_append] at e'
      rw [← e']
      exact List.mem_cons_of_mem _ hc
    | cons y a' =>
      obtain ⟨rfl, -⟩ := List.cons_eq_cons.mp e'
      exact absurd (e ▸ List.mem_append_right _ List.mem_cons_self) hx

/-- The rail's events of tick 2047 come before its close (R140). -/
theorem State.tickRunning_rail_before_close (h : s.ftu.tick + 1 < s.ftu.length) {l r : List Instr}
    (e : (s.tickRunning i).pending = l ++ .measurementClose :: r) (hr : c ∈ r) : source c ≠ .rail := by
  intro hc
  have closes : (s.advance i.pins).ftu.tick = Config.closeTick := by
    have mem := (State.tickRunning_close (i := i) h).mp (by rw [e]; simp)
    simp [mem, Config.closeTick]
  rw [State.tickRunning_within i h] at e
  unfold State.tickWithin at e
  dsimp only at e
  rw [if_pos closes] at e
  have first : Instr.measurementClose ∉ (s.advance i.pins).endedPulses ++ (s.advance i.pins).readRail.2 := fun g => by
    rcases List.mem_append.mp g with g | g
    · cases State.endedPulses_source g
    · cases State.readRail_source g
  have last := mem_of_append_eq_of_not_mem e first c hr
  simp only [arrange_flatten_mem, List.flatten_append, List.mem_append, List.flatten_cons, List.flatten_nil,
    List.append_nil, List.mem_singleton] at last
  rcases last with (g | g) | g
  · exact OffSlots.not_slot (.inr (.inr hc)) g
  · rw [State.bitSlot_source g] at hc; cases hc
  · rw [g] at hc; cases hc

/-- Within a frame the three lines are read (R135). -/
theorem State.tickRunning_readsRail (h : s.ftu.tick + 1 < s.ftu.length) :
    ReadsRail { s.tickRunning i with rail := s.rail } (s.tickRunning i) := by
  have reads : ReadsRail (s.advance i.pins) (s.tickRunning i) := by
    refine .of_readRail (by rw [State.tickRunning_within i h]; rfl) fun c hc => ?_
    have bit : c ∉ (s.advance i.pins).bitSlot := fun g => by rw [State.bitSlot_source g] at hc; cases hc
    have close : c ≠ .measurementClose := fun g => by rw [g] at hc; cases hc
    rw [State.tickRunning_within_mem h (.inr (.inr hc))]
    simp [bit, close]
  have state : { s.tickRunning i with rail := s.rail } =
      { s.advance i.pins with pending := (s.tickRunning i).pending } := by
    have e := s.tickRunning_state i
    rw [← s.advance_rail i.pins] at e ⊢
    generalize s.tickRunning i = u at e ⊢
    generalize s.advance i.pins = v at e ⊢
    rw [e]
  rw [state]
  exact reads.queue _

/-! Each group's events -/

/-- The group of a tick's events that have the source k, of those whose place in the queue is open (3.md). -/
def State.tickGroup (s : State) (i : TickInput) : EventSource → List Instr
  | .pulse => (s.advance i.pins).endedPulses
  | .trib t => (s.advance i.pins).tribSlot s.choiceSeq i t
  | .ref r => (s.advance i.pins).refSlot s.choiceSeq r
  | .ej => s.ejSlot i.pins.ej
  | .mak => (s.advance i.pins).makSlot
  | .rail => []
  | .bit => []
  | .frame => []
  | .reset => []

/-- An event of such a group is found where its source gives it. -/
theorem State.tickRunning_group (h : ¬ OffSlots c) :
    c ∈ (s.tickRunning i).pending ↔ c ∈ s.tickGroup i (source c) := by
  have other (x) (hx : OffSlots x) : c ≠ x := fun e => h (e ▸ hx)
  rw [State.tickRunning_mem _ _ _ (fun _ => other _ (.inl rfl)) (other _ (.inl rfl)) (other _ (.inr (.inr rfl)))
    (fun _ _ _ => other _ (.inr (.inr rfl))) (fun _ _ => other _ (.inr (.inl rfl)))]
  constructor
  · rintro (g | ⟨v, g⟩ | ⟨v, g⟩ | g | g)
    · rw [State.endedPulses_source g]; exact g
    · rw [State.tribSlot_source g]; exact g
    · rw [State.refSlot_source g]; exact g
    · rw [State.ejSlot_source g]; exact g
    · rw [State.makSlot_source g]; exact g
  · intro g
    cases e : source c <;> rw [e] at g
    case pulse => exact .inl g
    case trib t => exact .inr (.inl ⟨t, g⟩)
    case ref r => exact .inr (.inr (.inl ⟨r, g⟩))
    case ej => exact .inr (.inr (.inr (.inl g)))
    case mak => exact .inr (.inr (.inr (.inr g)))
    all_goals cases g

/-! Tributaries -/

theorem State.tickRunning_trib (t : TribId) : (s.tickRunning i).trib t = (s.advance i.pins).trib t := by
  have e := s.tickRunning_state i
  generalize s.tickRunning i = u at e ⊢
  rw [e]
  rfl

theorem State.tickRunning_monitor (r : RefId) : (s.tickRunning i).monitor r = (s.advance i.pins).monitor r := by
  have e := s.tickRunning_state i
  generalize s.tickRunning i = u at e ⊢
  rw [e]
  cases r <;> rfl

/-- A dark entry comes where the dark timer has run out (R4), at a tick without an edge always. -/
theorem State.tribSlot_darkEntry {s : State} {n : Nat} (t : TribId) :
    (Instr.darkEntry t ∈ s.tribSlot n i t → (s.trib t).rx.darkTimer = some 0) ∧
      ((s.trib t).rx.darkTimer = some 0 → i.bitsOf t = [] → Instr.darkEntry t ∈ s.tribSlot n i t) := by
  have edge (b : Bool) (k : EdgeKind) : edgeCommand t b k ≠ .darkEntry t := by cases k <;> nofun
  unfold State.tribSlot
  dsimp only
  constructor
  · split
    · rename_i h
      intro _
      simp only [Bool.and_eq_true, beq_iff_eq] at h
      exact h.1
    · intro h
      obtain ⟨b, -, e⟩ := List.mem_map.mp h
      exact absurd e (edge _ _)
  · intro h1 h2
    simp [h1, h2]

/-- The dark timer of an enabled tributary counts down, and expired it is a dark entry (R3, R4). -/
theorem State.tickRunning_tributary (t : TribId) :
    (s.enabled t = false → (s.tickRunning i).trib t = s.trib t) ∧
    (s.enabled t = true →
      (s.tickRunning i).trib t = { s.trib t with
        rx := { (s.trib t).rx with darkTimer := (s.trib t).rx.darkTimer.map (· - 1) } } ∧
      ((s.trib t).rx.darkTimer = some 1 → (∀ b, (t, b) ∉ i.edges) →
        Instr.darkEntry t ∈ (s.tickRunning i).pending) ∧
      (Instr.darkEntry t ∈ (s.tickRunning i).pending → ∃ d ≤ 1, (s.trib t).rx.darkTimer = some d)) := by
  have entry : Instr.darkEntry t ∈ (s.tickRunning i).pending ↔
      Instr.darkEntry t ∈ (s.advance i.pins).tribSlot s.choiceSeq i t :=
    State.tickRunning_group (by simp [OffSlots, source])
  rw [State.tickRunning_trib, entry]
  have trib := s.advance_trib i.pins t
  refine ⟨fun h => by rw [trib, h]; rfl, fun h => ⟨by rw [trib, h]; rfl, fun h1 hb => ?_, fun g => ?_⟩⟩
  · refine (State.tribSlot_darkEntry t).2 ?_ ?_
    · rw [trib, h]
      simp [Receiver.tick, h1]
    · simp only [TickInput.bitsOf, List.map_eq_nil_iff, List.filter_eq_nil_iff, decide_eq_true_eq]
      rintro ⟨v, b⟩ hv rfl
      exact hb b hv
  · have timer := (State.tribSlot_darkEntry t).1 g
    rw [trib, h] at timer
    simp only [if_true, Receiver.tick, Option.map_eq_some_iff] at timer
    obtain ⟨d, hd, hz⟩ := timer
    exact ⟨d, by omega, hd⟩

/-! References -/

/-- A missing edge comes of an activity timer that has run out (R107). -/
theorem State.refSlot_expires {s : State} {n : Nat} {r : RefId} (h : .missingEdge r ∈ s.refSlot n r) :
    (s.monitor r).expires = true := by
  unfold State.refSlot at h
  dsimp only at h
  split at h
  · rename_i g
    exact (Bool.and_eq_true _ _ ▸ g).1
  · split at h <;> simp at h

section
variable {m : Monitor} {high : Bool}

theorem Monitor.tick_absent (h : m.state = .absent) : m.tick high = m := by
  unfold Monitor.tick
  rw [if_pos h]

/-- The filter and the activity timer of a monitor that watches at one tick (R104, R107). -/
theorem Monitor.tick_present (h : m.state ≠ .absent) : m.tick high = { m with
    activity := m.activity.map (· - 1)
    armed := m.armed || !high
    highTicks := if high then (if m.armed then m.highTicks + 1 else m.highTicks) else 0 } := by
  unfold Monitor.tick Monitor.sample
  rw [if_neg h]
  cases high
  · simp
  · cases armed : m.armed <;> simp [armed]

theorem Monitor.tick_accepts :
    (m.tick high).accepts = true ↔ m.state ≠ .absent ∧ high = true ∧ m.armed = true ∧ m.highTicks = 7 := by
  by_cases h : m.state = .absent
  · rw [Monitor.tick_absent h]
    simp [Monitor.accepts, h]
  · rw [Monitor.tick_present h]
    cases high
    · simp [Monitor.accepts]
    · cases armed : m.armed <;> simp [Monitor.accepts, h]

theorem Monitor.tick_expires :
    (m.tick high).expires = true ↔ m.state ≠ .absent ∧ ∃ d ≤ 1, m.activity = some d := by
  by_cases h : m.state = .absent
  · rw [Monitor.tick_absent h]
    simp [Monitor.expires, h]
  · rw [Monitor.tick_present h]
    cases m.activity with
    | none => simp [Monitor.expires]
    | some d => simp [Monitor.expires, h, Nat.sub_eq_zero_iff_le]

end

/-- A monitor's filter and timer take the tick, with the accepted or the missing edge that ends one (R104, R107). -/
theorem State.tickRunning_reference (r : RefId) :
    let m := s.monitor r
    let high := match r with | .refA => i.pins.refA | .refB => i.pins.refB
    let accepted := m.state ≠ .absent ∧ high = true ∧ m.armed = true ∧ m.highTicks = 7
    (m.state = .absent → (s.tickRunning i).monitor r = m) ∧
    (m.state ≠ .absent → (s.tickRunning i).monitor r = { m with
      activity := m.activity.map (· - 1)
      armed := m.armed || !high
      highTicks := if high then (if m.armed then m.highTicks + 1 else m.highTicks) else 0 }) ∧
    (∀ n, Instr.acceptedEdge r n ∈ (s.tickRunning i).pending ↔ accepted ∧ n = s.ftu.crystal + 1 - 7) ∧
    (m.state ≠ .absent → m.activity = some 1 → ¬ accepted → Instr.missingEdge r ∈ (s.tickRunning i).pending) ∧
    (Instr.missingEdge r ∈ (s.tickRunning i).pending → m.state ≠ .absent ∧ ∃ d ≤ 1, m.activity = some d) := by
  intro m high accepted
  have monitor : (s.advance i.pins).monitor r = m.tick high := s.advance_monitor i.pins r
  have accepts : ((s.advance i.pins).monitor r).accepts = true ↔ accepted := by rw [monitor]; exact Monitor.tick_accepts
  have expires : ((s.advance i.pins).monitor r).expires = true ↔
      m.state ≠ .absent ∧ ∃ d ≤ 1, m.activity = some d := by
    rw [monitor]; exact Monitor.tick_expires
  have event {c : Instr} (hc : source c = .ref r) :
      c ∈ (s.tickRunning i).pending ↔ c ∈ (s.advance i.pins).refSlot s.choiceSeq r := by
    rw [State.tickRunning_group (by simp [OffSlots, hc]), hc]
    rfl
  refine ⟨fun h => ?_, fun h => ?_, fun n => ?_, fun h h1 ha => ?_, fun h => ?_⟩
  · rw [State.tickRunning_monitor, monitor, Monitor.tick_absent h]
  · rw [State.tickRunning_monitor, monitor, Monitor.tick_present h]
  · rw [event rfl, State.refSlot_accepted, accepts, State.advance_ftu]
  · rw [event rfl]
    exact State.refSlot_missing _ _ _ (expires.mpr ⟨h, 1, le_rfl, h1⟩)
      (Bool.not_eq_true _ ▸ fun g => ha (accepts.mp g))
  · rw [event rfl] at h
    exact expires.mp (State.refSlot_expires h)

/-! The other pins, and reset -/

/-- The eighth high tick of MAK is an acknowledgement (R173). -/
theorem State.tickRunning_acknowledgement : Instr.acknowledgement ∈ (s.tickRunning i).pending ↔
    i.pins.mak = true ∧ s.maint.makArmed = true ∧ s.maint.makHigh = 7 := by
  have slot : Instr.acknowledgement ∈ (s.advance i.pins).makSlot ↔
      (s.advance i.pins).maint.acknowledges = true := by
    unfold State.makSlot
    split <;> simp_all
  rw [State.tickRunning_group (by simp [OffSlots, source])]
  refine slot.trans ?_
  rw [State.advance_maint, Maint.sampleMak_eq]
  cases i.pins.mak
  · simp [Maint.acknowledges]
  · cases armed : s.maint.makArmed <;> simp [Maint.acknowledges]

/-- A rise of EJ between two samples (R163). -/
theorem State.tickRunning_ejRisingEdge : Instr.ejRisingEdge ∈ (s.tickRunning i).pending ↔
    s.listen.ejSampled = true ∧ s.pins.ej = false ∧ i.pins.ej = true := by
  have slot : Instr.ejRisingEdge ∈ s.ejSlot i.pins.ej ↔
      s.listen.ejSampled = true ∧ s.pins.ej = false ∧ i.pins.ej = true := by
    unfold State.ejSlot
    split <;> simp_all
  rw [State.tickRunning_group (by simp [OffSlots, source])]
  exact slot

/-- A pulse of this station that has reached its length ends (R137). -/
theorem State.tickRunning_pulseEnd (line : RailLine) : Instr.pulseEnd line ∈ (s.tickRunning i).pending ↔
    ∃ e, s.rail.pulses.get line = some e ∧ e ≤ s.ftu.crystal + 1 := by
  have ended : Instr.pulseEnd line ∈ (s.advance i.pins).endedPulses ↔
      ∃ e, s.rail.pulses.get line = some e ∧ e ≤ s.ftu.crystal + 1 := by
    rw [State.endedPulses_mem, State.advance_rail, State.advance_ftu]
    simp
  rw [State.tickRunning_group (by simp [OffSlots, source])]
  exact ended

/-- A running station's tick gives no command of RSTn. -/
theorem State.tickRunning_no_reset (hc : source c = .reset) : c ∉ (s.tickRunning i).pending := by
  rw [State.tickRunning_group (by simp [OffSlots, hc]), hc]
  exact List.not_mem_nil

/-- Each tributary's edges of the release's tick come after the release or not at all (notes/assumptions/38.md). -/
theorem releaseEdges_bits (n : Nat) (i : TickInput) (t : TribId) :
    (releaseEdges n i).filterMap (edgeBit t) = i.bitsOf t ∨ (releaseEdges n i).filterMap (edgeBit t) = [] := by
  have other (v : TribId) (hv : v ≠ t) :
      (if Config.edgesBeforeRelease n v.val then [] else (i.bitsOf v).map fun b => Instr.leaveDark v b).filterMap
        (edgeBit t) = [] := by
    split
    · rfl
    · refine filterMap_edgeBit_nil fun c hc => ?_
      obtain ⟨b, -, rfl⟩ := List.mem_map.mp hc
      simpa [source] using hv
  unfold releaseEdges
  rw [List.flatMap_def, filterMap_flatten_single allTribs_nodup (allTribs_mem t) other]
  split
  · exact .inr rfl
  · exact .inl (filterMap_edgeBit_map (fun b => by simp [edgeBit]) _)

theorem releaseEdges_leaveDark {n : Nat} (h : c ∈ releaseEdges n i) : ∃ t b, c = .leaveDark t b := by
  unfold releaseEdges at h
  obtain ⟨t, -, h⟩ := List.mem_flatMap.mp h
  split at h
  · cases h
  · obtain ⟨b, -, rfl⟩ := List.mem_map.mp h
    exact ⟨t, b, rfl⟩

end

/-! The step on an empty queue -/

section
variable {s : State} {i : TickInput}

/-- The input of the tick is the next of the script, or the levels as they stand (notes/assumptions/4.md). -/
theorem State.nextInput_eq (h : s.inputs.head? = some i ∨ s.inputs = [] ∧ i = { pins := s.pins, edges := [] }) :
    s.nextInput = i := by
  unfold State.nextInput
  cases e : s.inputs with
  | nil => simpa [e, eq_comm] using h
  | cons x l => simpa [e] using h

theorem step_empty (h : s.pending = []) : step s = .next s.idle := by
  unfold step
  rw [h]

theorem step_tick (h : s.pending = []) (hd : s.railDue = false) : step s = .next s.takeTick := by
  rw [step_empty h, State.idle, hd]
  rfl

/-- A tick out of reset, RSTn high. -/
theorem State.takeTick_running (hi : s.nextInput = i) (hr : s.running = true) (hp : i.pins.rstn = true) :
    s.takeTick = ({ s with inputs := s.inputs.tail } : State).tickRunning i := by
  unfold State.takeTick
  rw [hi, if_pos hr, if_pos hp, List.drop_one]

/-- A tick out of reset at which RSTn reads low (R155). -/
theorem State.takeTick_assertion (hi : s.nextInput = i) (hr : s.running = true) (hp : i.pins.rstn = false) :
    s.takeTick = { s with
      pins := { i.pins with rstn := true }, ftu := { s.ftu with crystal := s.ftu.crystal + 1 }
      inputs := s.inputs.tail, pending := [.resetAssertion] } := by
  unfold State.takeTick
  rw [hi, if_pos hr, if_neg (by simp [hp]), List.drop_one]

/-- A tick of reset moves the crystal count alone (R155). -/
theorem State.takeTick_reset (hq : s.pending = []) (hi : s.nextInput = i) (hr : s.running = false)
    (hp : i.pins.rstn = false) : s.takeTick = { s with
      pins := i.pins, ftu := { s.ftu with crystal := s.ftu.crystal + 1 }, inputs := s.inputs.tail } := by
  have pins : { i.pins with rstn := false } = i.pins := by rw [← hp]
  unfold State.takeTick
  rw [hi, if_neg (by simp [hr]), List.drop_one, pins, if_neg (by simp [hp]), ← hq]

/-- The tick of the release, its edges after it (R156). -/
theorem State.takeTick_release (hi : s.nextInput = i) (hr : s.running = false) (hp : i.pins.rstn = true) :
    s.takeTick = { s with
      pins := { i.pins with rstn := false }, ftu := { s.ftu with crystal := s.ftu.crystal + 1 }
      inputs := s.inputs.tail
      pending := .resetRelease i.pins.straps i.pins.ej :: releaseEdges s.choiceSeq i } := by
  unfold State.takeTick
  rw [hi, if_neg (by simp [hr]), List.drop_one, if_pos hp]

end

/-- Settles O60: source by source, what the groups of a tick hold, and the arrangement keeps. -/
theorem tickFindsEvents : Obligations.TickFindsEvents := by
  unfold Obligations.TickFindsEvents
  intro edgeBits bits reads input
  have names : edgeBits = edgeBit := by
    funext t c
    cases c <;> rfl
  clear_value edgeBits
  subst names
  refine ⟨fun s i hq hd hr hp hi => ?running, fun s hq hd => ?rail, fun s i hq hd hi => ?reset⟩
  case running =>
    have ticks := (step_tick hq hd).trans (congrArg Host.Outcome.next
      (State.takeTick_running (State.nextInput_eq hi) hr hp))
    let s0 : State := { s with inputs := s.inputs.tail }
    refine ⟨s0.tickRunning i, ticks, ?frame, fun h => ⟨State.tickRunning_takes_boundary (s := s0) h,
        State.tickRunning_no_close (s := s0) h, State.tickRunning_no_officeBit (s := s0) h,
        State.tickRunning_boundary_rail (s := s0) h⟩,
      fun h => ⟨State.tickRunning_no_boundary (s := s0) h, State.tickRunning_close (s := s0) h, fun l r e => ?order,
        State.tickRunning_officeBit (s := s0) h, State.tickRunning_readsRail (s := s0) h⟩,
      State.tickRunning_tributary (s := s0), State.tickRunning_bits s0 i,
      fun c hc hg => (State.tickRunning_once s0 i).count_le (onceOnly_of_edgeBit hc hg),
      State.tickRunning_no_reset rfl, fun _ _ => State.tickRunning_no_reset rfl,
      State.tickRunning_reference (s := s0), State.tickRunning_acknowledgement (s := s0),
      State.tickRunning_ejRisingEdge (s := s0), State.tickRunning_pulseEnd (s := s0)⟩
    case frame =>
      have frame := State.tickRunning_frame s0 i (hp.trans hr.symm)
      rw [Maint.sampleMak_eq] at frame
      generalize s0.tickRunning i = u at frame ⊢
      exact frame
    case order =>
      have rail {c : Instr} (hc : source c = .rail) : c ∉ r := fun g => 
        State.tickRunning_rail_before_close (s := s0) h e g hc
      exact ⟨rail rfl, fun _ _ _ => rail rfl⟩
  case rail =>
    exact ⟨_, step_empty hq, State.idle_railDue hd⟩
  case reset =>
    have input := State.nextInput_eq hi
    refine ⟨fun hr hp => ?_, fun hr hp => ?_, fun hr hp => ⟨releaseEdges s.choiceSeq i, ?_, fun c =>
      releaseEdges_leaveDark, releaseEdges_bits s.choiceSeq i⟩⟩
    · rw [step_tick hq hd, State.takeTick_assertion input hr hp]
    · rw [step_tick hq hd, State.takeTick_reset hq input hr hp]
    · rw [step_tick hq hd, State.takeTick_release input hr hp]

end Sys2Proof.Machine
end

section
/-! PROOFS. The laws right after reset, the cell request with the choice of its victim (chapter 02), and what a
boundary's readout decides (chapter 03). -/

namespace Sys2Proof.Machine

/-! The state right after reset -/

theorem State.reset_trib (t : TribId) : State.reset.trib t = Trib.reset := by simp [State.reset, State.trib]

/-- Every number that the FTU holds right after reset is 0 (R81). -/
theorem Ftu.reset_ranges : Ftu.reset.Ranges where
  integral := ⟨by decide, by decide⟩
  frequency := ⟨by decide, by decide⟩
  history := ⟨by decide, by decide⟩
  fraction := by decide
  lastError := nofun
  frame := by decide
  holdAge := by decide
  settle := by decide
  excursion := by decide
  range := by decide

/-- A station right after reset listens, with nothing selected, pending or driven (R113, R121, R136, R157). -/
theorem State.reset_modeLaw : State.reset.ModeLaw where
  anchor := by decide
  qualified := nofun
  listening _ := rfl
  grade h := absurd rfl h
  phase _ := rfl
  request := nofun
  withdrawn := nofun
  noJoin := nofun
  drive _ := ⟨rfl, rfl⟩
  reset _ := ⟨rfl, rfl, rfl, rfl⟩

/-- The rail interface right after reset has no mark, no run and no stamp (R136). -/
theorem Rail.reset_ranges : Rail.reset.Ranges where
  bestGrade := by decide
  railError := nofun
  leadAbsent := by decide
  marks := nofun
  markCand := nofun
  markRun := by decide
  backoff := by decide
  stamps := by decide

/-- Settles O3: one law after the other, each from the reset values it speaks of. -/
theorem lawsAtReset : Obligations.LawsAtReset := by
  refine ⟨?pool, fun t => ?marks, Ftu.reset_ranges, State.reset_modeLaw, Rail.reset_ranges, fun f => ?flags⟩
  case pool => exact State.poolLaw_of_blank (fun t => State.reset_trib t ▸ ⟨rfl, rfl, rfl, rfl⟩) rfl
  case marks => rw [State.reset_trib]; exact ⟨le_rfl, le_rfl, Nat.zero_le _, Nat.zero_le _⟩
  case flags => cases f <;> exact nofun

/-! The three outcomes of a cell request, written out (R28, R31, R32, R42) -/

theorem State.grant_eq (s : State) (t : TribId) :
    s.grant t = (s.setTrib t { s.trib t with
      store := { (s.trib t).store with filling := some freshPayload } }).setFree (s.free - 1) := rfl

/-- An eviction is one change of the victim, one of the requester, and the flag (R31, R42). -/
theorem State.evict_eq {s : State} {t v : TribId} (h : v ≠ t) :
    s.evict t v = ((s.setTrib v { s.trib v with
        store := { (s.trib v).store with queue := (s.trib v).store.queue.tail }
        record := (s.trib v).record.squeeze .evicted s.stamp (s.trib v).store.queue.length }).setTrib t { s.trib t with
        store := { (s.trib t).store with filling := some freshPayload }
        record := (s.trib t).record.evictionCaused }).raise .squeeze := by
  simp [State.evict, State.modStore, State.modRecord, h.symm]

/-- An own drop is one change of the requester, and the flag (R32, R42). -/
theorem State.ownDrop_eq (s : State) (t : TribId) :
    s.ownDrop t = (s.setTrib t { s.trib t with
        store := { (s.trib t).store with filling := some freshPayload, queue := (s.trib t).store.queue.tail }
        record := (s.trib t).record.squeeze .own s.stamp (s.trib t).store.queue.length }).raise .squeeze := by
  simp [State.ownDrop, State.modStore, State.modRecord]

/-- Settles O17: the cases of a cell request, each with its outcome written out. -/
theorem cellRequest : Obligations.CellRequest := by
  intro s t _
  refine ⟨freshPayload, fun hg => ?grant, fun h3 hu => ⟨fun v hv => ?evict, fun hv => ?own⟩⟩
  case grant =>
    rcases s.cellRequest_cases t with ⟨-, e⟩ | ⟨h3, hu, -⟩
    · rw [e, State.grant_eq]; rfl
    · omega
  all_goals rcases s.cellRequest_cases t with ⟨hg, -⟩ | ⟨-, -, ⟨w, hw, e⟩ | ⟨hw, e⟩⟩
  case evict.inl | own.inl => omega
  case evict.inr.inl =>
    obtain rfl : w = v := Option.some.inj (hw.symm.trans hv)
    obtain ⟨hn, -⟩ := State.victim_spec hv
    exact ⟨_, rfl, by rw [e, State.evict_eq hn]; rfl⟩
  case evict.inr.inr => exact absurd (hw.symm.trans hv) nofun
  case own.inr.inl => exact absurd (hw.symm.trans hv) nofun
  case own.inr.inr => rw [e, State.ownDrop_eq]; rfl

/-! The victim of a squeeze as the least candidate of one linear order (R30) -/

/-- The three tests of R30 as one key: class, then holdings the other way round, then number the other way
round. -/
def State.victimKey (s : State) (v : TribId) : Fin 4 ×ₗ ℕᵒᵈ ×ₗ TribIdᵒᵈ :=
  toLex (s.classOf v, toLex (OrderDual.toDual (s.holdings v), OrderDual.toDual v))

theorem State.victimKey_lt (s : State) (v w : TribId) : s.victimKey v < s.victimKey w ↔
    s.classOf v < s.classOf w ∨
    (s.classOf v = s.classOf w ∧ s.holdings w < s.holdings v) ∨
    (s.classOf v = s.classOf w ∧ s.holdings v = s.holdings w ∧ w < v) := by
  simp [State.victimKey, Prod.Lex.toLex_lt_toLex, and_or_left]

theorem State.victimKey_injective (s : State) : Function.Injective s.victimKey := fun _ _ h =>
  congrArg (fun k : Fin 4 ×ₗ ℕᵒᵈ ×ₗ TribIdᵒᵈ => OrderDual.ofDual (ofLex (ofLex k).2).2) h

theorem State.victimBefore_iff (s : State) (a b : TribId) :
    s.victimBefore a b = true ↔ s.victimKey a < s.victimKey b := by
  simp [State.victimBefore, State.victimKey_lt, and_or_left]

theorem State.victim_eq_argmin (s : State) (t : TribId) :
    s.victim t = (allTribs.filter (s.victimCandidate t)).argmin s.victimKey := by
  unfold State.victim List.argmin
  congr 1
  funext best v
  cases best with
  | none => rfl
  | some b => simp only [List.argAux, State.victimBefore_iff]

/-- What R30 asks of a candidate. -/
theorem State.victimCandidate_iff (s : State) (t v : TribId) : s.victimCandidate t v = true ↔
    v ≠ t ∧ s.enabled v = true ∧ s.classOf v < s.classOf t ∧ 3 < s.holdings v ∧
      1 ≤ (s.trib v).store.queue.length := by
  simp only [State.victimCandidate, Bool.and_eq_true, decide_eq_true_eq, and_assoc, ← List.length_pos_iff]
  rfl

theorem State.victim_eq_some_iff (s : State) (t v : TribId) : s.victim t = some v ↔
    s.victimCandidate t v = true ∧
      ∀ w, s.victimCandidate t w = true → w ≠ v → s.victimKey v < s.victimKey w := by
  simp only [State.victim_eq_argmin, List.argmin_eq_some_iff, List.mem_filter, allTribs_mem, true_and]
  refine and_congr_right fun _ => ⟨fun ⟨hmin, _⟩ w hw hne => ?_, fun hlt => ⟨fun w hw => ?_, fun w hw hle => ?_⟩⟩
  · exact lt_of_le_of_ne (hmin w hw) fun h => hne (s.victimKey_injective h).symm
  · by_cases hne : w = v
    · rw [hne]
    · exact (hlt w hw hne).le
  · by_cases hne : w = v
    · rw [hne]
    · exact absurd (hlt w hw hne) hle.not_gt

theorem State.victim_eq_none_iff (s : State) (t : TribId) :
    s.victim t = none ↔ ∀ v, ¬ s.victimCandidate t v = true := by
  simp [State.victim_eq_argmin, List.filter_eq_nil_iff, allTribs_mem]

/-- Settles O18: the victim is the candidate of least key. -/
theorem victimChoice : Obligations.VictimChoice := by
  intro s t candidate
  have hc (v : TribId) : candidate v ↔ s.victimCandidate t v = true := (s.victimCandidate_iff t v).symm
  refine ⟨fun v => ?chosen, ?none, fun hv h3 hu => ?drop⟩
  case chosen => simp only [hc, State.victim_eq_some_iff, State.victimKey_lt]
  case none => simp only [hc, State.victim_eq_none_iff]
  case drop =>
    rcases s.cellRequest_cases t with ⟨hg, -⟩ | ⟨-, -, ⟨w, hw, -⟩ | ⟨-, e⟩⟩
    · omega
    · exact absurd (hw.symm.trans hv) nofun
    · exact e

/-! Readout's decision at a boundary (R47 to R57), by what it decides -/

/-- What the boundary decides for an enabled tributary, from the tributary alone and the centre. -/
def Trib.decision (x : Trib) (centre : Nat) : ReadoutAction :=
  readoutAction x.storeState (x.rx.align == .aligned) x.store.queue.length centre

/-- IDLE sends fill (R48). -/
theorem Trib.decision_idle {x : Trib} {centre : Nat} (h : x.storeState = .idle) : x.decision centre = .stayFill := by
  rw [Trib.decision, h]; rfl

/-- PRIME waits for C frames, or for the receiver to leave ALIGNED (R48). -/
theorem Trib.decision_prime {x : Trib} {centre : Nat} (h : x.storeState = .prime) : x.decision centre =
    if centre ≤ x.store.queue.length then .dequeue
    else if x.rx.align = .aligned then .stayFill
    else if 1 ≤ x.store.queue.length then .dequeue
    else .goIdle := by
  simp [Trib.decision, readoutAction, h]

/-- NORMAL dequeues while there is a frame (R49). -/
theorem Trib.decision_normal {x : Trib} {centre : Nat} (h : x.storeState = .normal) : x.decision centre =
    if 1 ≤ x.store.queue.length then .dequeue
    else if x.rx.align = .aligned then .startRepeat
    else .goIdle := by
  simp [Trib.decision, readoutAction, h]

/-- REFILL repeats until C frames are queued, or the receiver leaves ALIGNED (R51, R52). -/
theorem Trib.decision_refill {x : Trib} {centre : Nat} (h : x.storeState = .refill) : x.decision centre =
    if x.rx.align = .aligned then
      if x.store.queue.length < centre then .continueRepeat else .dequeue
    else if 1 ≤ x.store.queue.length then .dequeue
    else .goIdle := by
  simp [Trib.decision, readoutAction, h]

theorem satSucc_eq_min {n : Nat} (top : Nat) : satSucc top n = min top (n + 1) := by
  unfold satSucc
  split <;> omega

section
variable {x : Trib} {centre : Nat} {index : BitVec 3} {stamp : Stamp} {shared : Nat}

/-- A disabled tributary sends fill, and nothing else happens to it (R44, R57). -/
theorem Trib.atBoundary_disabled :
    x.atBoundary false centre index stamp shared = { x with outFrame := fillFrame index } := rfl

/-- An enabled tributary is changed as its decision says, but for the watermark offer in its record (R55). -/
theorem Trib.atBoundary_enabled : x.atBoundary true centre index stamp shared =
    { x.afterAction index stamp shared (x.decision centre) with
      record := (x.atBoundary true centre index stamp shared).record } := rfl

theorem Trib.atBoundary_stayFill (h : x.decision centre = .stayFill) :
    let y := x.atBoundary true centre index stamp shared
    y.store = x.store ∧ y.storeState = x.storeState ∧ y.repeatRun = x.repeatRun ∧ y.outFrame = fillFrame index := by
  rw [Trib.atBoundary_enabled, h]
  exact ⟨rfl, rfl, rfl, rfl⟩

theorem Trib.atBoundary_goIdle (h : x.decision centre = .goIdle) :
    let y := x.atBoundary true centre index stamp shared
    y.store = { x.store with transmitting := none } ∧ y.storeState = .idle ∧ y.repeatRun = 0 ∧
      y.outFrame = fillFrame index := by
  rw [Trib.atBoundary_enabled, h]
  exact ⟨rfl, rfl, rfl, rfl⟩

theorem Trib.atBoundary_dequeue (h : x.decision centre = .dequeue) (hq : 1 ≤ x.store.queue.length) :
    let y := x.atBoundary true centre index stamp shared
    ∃ c rest, x.store.queue = c :: rest ∧ y.store = { x.store with transmitting := some c, queue := rest } ∧
      y.storeState = .normal ∧ y.repeatRun = 0 ∧ y.outFrame = cellFrame index c := by
  obtain ⟨c, rest, hc⟩ := List.exists_cons_of_length_pos hq
  rw [Trib.atBoundary_enabled, h]
  simp [Trib.afterAction, hc]

/-- A repeat, started or continued, sends the transmitting cell again (R50, R51). -/
theorem Trib.atBoundary_repeat {run : Nat}
    (h : x.decision centre = .startRepeat ∧ run = 1 ∨
      x.decision centre = .continueRepeat ∧ run = min 255 (x.repeatRun + 1))
    (c : Cell) (hc : x.store.transmitting = some c) :
    let y := x.atBoundary true centre index stamp shared
    y.store = x.store ∧ y.storeState = .refill ∧ y.repeatRun = run ∧ y.outFrame = cellFrame index c := by
  rw [Trib.atBoundary_enabled]
  rcases h with ⟨h, rfl⟩ | ⟨h, rfl⟩ <;> simp [h, Trib.afterAction, hc, sentFrame, satSucc_eq_min]

end

/-- Settles O20: for each store state the decision, then what the decision does. -/
theorem boundaryReadout : Obligations.BoundaryReadout := by
  intro s ej hr
  refine ⟨s.takeBoundary ej, congrArg _ (whenRunning_running hr), fun t => ?_⟩
  intro x y
  have hy : y = _ := s.takeBoundary_trib ej t
  clear_value y
  subst hy
  generalize s.enabled t = e
  intro fill dequeued stays idles repeats
  refine ⟨(Trib.atBoundary_receiver ..).1, fun he => ?disabled, fun he => ?enabled⟩
  case disabled =>
    subst he
    exact ⟨rfl, rfl, rfl, rfl⟩
  case enabled =>
    subst he
    have stay (h : x.decision s.straps.dep.centre = .stayFill) : stays := Trib.atBoundary_stayFill h
    have idle (h : x.decision s.straps.dep.centre = .goIdle) : idles := Trib.atBoundary_goIdle h
    have deq (h : x.decision s.straps.dep.centre = .dequeue) (hq : 1 ≤ x.store.queue.length) : dequeued :=
      Trib.atBoundary_dequeue h hq
    have rep (run : Nat) (h : x.decision s.straps.dep.centre = .startRepeat ∧ run = 1 ∨
        x.decision s.straps.dep.centre = .continueRepeat ∧ run = min 255 (x.repeatRun + 1)) : repeats run :=
      Trib.atBoundary_repeat h
    have hc : 1 ≤ s.straps.dep.centre := DepthLimit.centre_pos _
    have empty (hq : x.store.queue = []) : x.store.queue.length = 0 := List.length_eq_zero_iff.mpr hq
    refine ⟨fun hst => stay (Trib.decision_idle hst), fun hst => ?prime, fun hst => ?normal, fun hst => ?refill⟩
    case prime =>
      have dec := Trib.decision_prime (centre := s.straps.dep.centre) hst
      refine ⟨fun hl => deq (dec.trans (if_pos hl)) (hc.trans hl), fun hl ha => stay ?_, fun ha hl => deq ?_ hl,
        fun ha hq => idle ?_⟩
      · rw [dec, if_neg (Nat.not_le.mpr hl), if_pos ha]
      · simp [dec, ha, hl]
      · have hl := empty hq
        rw [dec, if_neg (by rw [hl]; exact Nat.not_le.mpr hc), if_neg ha, if_neg (by omega)]
    case normal =>
      have dec := Trib.decision_normal (centre := s.straps.dep.centre) hst
      refine ⟨fun hl => deq (dec.trans (if_pos hl)) hl, fun hq ha => rep 1 (.inl ⟨?_, rfl⟩), fun hq ha => idle ?_⟩
      all_goals rw [dec, if_neg (by rw [empty hq]; decide)]
      · exact if_pos ha
      · exact if_neg ha
    case refill =>
      have dec := Trib.decision_refill (centre := s.straps.dep.centre) hst
      refine ⟨fun ha hl => rep _ (.inr ⟨?_, rfl⟩), fun ha hl => deq ?_ (hc.trans hl), fun ha hl => deq ?_ hl,
        fun ha hq => idle ?_⟩
      · rw [dec, if_pos ha, if_pos hl]
      · rw [dec, if_pos ha, if_neg (Nat.not_lt.mpr hl)]
      · rw [dec, if_neg ha, if_pos hl]
      · rw [dec, if_neg ha, if_neg (by rw [empty hq]; decide)]

end Sys2Proof.Machine
end

section
/-! PROOFS. The output lines (R58 to R60, R167): what a tick of the office frame drives, at each office bit, in the
gap of a join frame and at the boundary; and the release of RSTn (R156). -/

namespace Sys2Proof.Machine

/-! The tick of an office bit -/

section
variable {k : Nat} (hk : k ≤ 255) (half : Bool)
include hk

theorem officeBitTick_lt : officeBitTick k half < 4096 := by
  cases half <;> simp only [officeBitTick] <;> grind

theorem officeBitOf_officeBitTick : officeBitOf (officeBitTick k half) = k := by
  cases half <;> simp only [officeBitOf, officeBitTick] <;> grind

theorem streamBitOf_officeBitTick : streamBitOf (officeBitTick k half) = k / 16 := by
  rw [streamBitOf, officeBitOf_officeBitTick hk]

/-- The ticks of the 256 office bits come before the gap of a join frame (R59). -/
theorem State.inGap_officeBitTick (s : State) : s.inGap (officeBitTick k half) = false := by
  simp [State.inGap, officeBitTick_lt hk half]

theorem State.odaAt_officeBitTick (s : State) (t : TribId) :
    s.odaAt t (officeBitTick k half) = frameBit (s.trib t).outFrame k := by
  rw [State.odaAt, s.inGap_officeBitTick hk, officeBitOf_officeBitTick hk, Bool.false_or]

/-- OCK is low for eight ticks of an office bit and high for eight (R58). -/
theorem State.ockAt_officeBitTick (s : State) : s.ockAt (officeBitTick k half) = half := by
  rw [State.ockAt, s.inGap_officeBitTick hk, decide_eq_false (officeBitTick_lt hk half).not_ge]
  cases half <;> simp [officeBitTick]

theorem mscAt_officeBitTick : mscAt (officeBitTick k half) = decide (8 ≤ k % 16) := by
  rw [mscAt, officeBitOf_officeBitTick hk]

theorem State.msoAt_officeBitTick (s : State) : s.msoAt (officeBitTick k half) =
    if k < 128 then s.maint.octetHi.getLsbD (7 - k / 16) else s.maint.octetLo.getLsbD (15 - k / 16) := by
  rw [State.msoAt, streamBitOf_officeBitTick hk]
  exact if_congr (by omega) rfl rfl

theorem State.msfAt_officeBitTick (s : State) :
    s.msfAt (officeBitTick k half) = true ↔ s.maint.pageCounter = 0 ∧ k ≤ 15 := by
  rw [State.msfAt, streamBitOf_officeBitTick hk, Bool.and_eq_true, decide_eq_true_eq, decide_eq_true_eq]
  exact and_congr_right fun _ => by omega

end

/-- OFP is high for office bit 0, and in an index-0 frame to bit 7 (R60). -/
theorem State.ofpAt_officeBitTick (s : State) (k : Nat) (half : Bool) :
    s.ofpAt (officeBitTick k half) = true ↔ k = 0 ∨ s.ftu.officeIndex = 0 ∧ k ≤ 7 := by
  rw [State.ofpAt, decide_eq_true_eq, officeBitTick]
  by_cases hi : s.ftu.officeIndex = 0
  · simp only [hi, if_true, true_and]
    cases half <;> grind
  · simp only [hi, if_false, false_and, or_false]
    cases half <;> grind

/-- The lines of a boundary's tick, or of a release's, are those of the frame that begins there
(notes/assumptions/37.md). -/
def State.ShowsBitZero (u : State) : Prop :=
  (∀ t : TribId, u.out.oda[t] = (u.trib t).outFrame.getLsbD 255) ∧
    u.out.ock = false ∧ u.out.ofp = true ∧ u.out.msc = false ∧
    u.out.mso = u.maint.octetHi.getLsbD 7 ∧ (u.out.msf = true ↔ u.maint.pageCounter = 0)

theorem State.driveOutputs_oda (s : State) (tick : Nat) (t : TribId) :
    (s.driveOutputs tick).out.oda[t] = s.odaAt t tick := by simp [State.driveOutputs]

/-- The outputs driven at tick 0 are those of bit 0, whatever else follows. -/
theorem State.showsBitZero_of {s u : State} (out : u.out = (s.driveOutputs 0).out) (tribs : u.tribs = s.tribs)
    (maint : u.maint = s.maint) : u.ShowsBitZero := by
  have h0 : (0 : Nat) ≤ 255 := Nat.zero_le _
  have oda (t : TribId) : s.odaAt t 0 = (s.trib t).outFrame.getLsbD 255 := s.odaAt_officeBitTick h0 false t
  have ock : s.ockAt 0 = false := s.ockAt_officeBitTick h0 false
  have ofp : s.ofpAt 0 = true := (s.ofpAt_officeBitTick 0 false).mpr (.inl rfl)
  have mso : s.msoAt 0 = s.maint.octetHi.getLsbD 7 := s.msoAt_officeBitTick h0 false
  have msf : s.msfAt 0 = true ↔ s.maint.pageCounter = 0 :=
    (s.msfAt_officeBitTick h0 false).trans (and_iff_left (Nat.zero_le _))
  have trib (t : TribId) : u.trib t = s.trib t := by simp only [State.trib, tribs]
  unfold State.ShowsBitZero
  rw [out, maint]
  exact ⟨fun t => by rw [s.driveOutputs_oda, trib, oda], ock, ofp, rfl, mso, msf⟩

theorem State.takeBoundary_showsBitZero (s : State) (ej : Bool) : (s.takeBoundary ej).ShowsBitZero := by
  rw [State.takeBoundary_eq]
  exact State.showsBitZero_of rfl rfl rfl

theorem exec_officeBit {s : State} (hr : s.running = true) (k : Nat) (half : Bool) :
    exec (.officeBit k half) s = .next (s.driveOutputs (officeBitTick k half)) :=
  congrArg _ (whenRunning_running hr)

theorem exec_officeBoundary {s : State} (hr : s.running = true) (ej : Bool) :
    exec (.officeBoundary ej) s = .next (s.takeBoundary ej) :=
  congrArg _ (whenRunning_running hr)

/-- Settles O59: each line by the office bit of the command's tick. -/
theorem officeBit : Obligations.OfficeBit := by
  refine ⟨fun s ej hr => ?boundary, fun s half hr => ⟨fun k hk => ?bit, fun hj => ?gap⟩⟩
  case boundary => exact ⟨_, exec_officeBoundary hr ej, s.takeBoundary_showsBitZero ej⟩
  case bit =>
    have mso := s.msoAt_officeBitTick hk half
    refine ⟨_, exec_officeBit hr k half, rfl, fun t => ?_, s.ockAt_officeBitTick hk half,
      s.ofpAt_officeBitTick k half, ?_, fun h => mso.trans (if_pos h), fun h => mso.trans (if_neg h.not_gt),
      s.msfAt_officeBitTick hk half⟩
    · exact (s.driveOutputs_oda _ t).trans (s.odaAt_officeBitTick hk half t)
    · exact (congrArg (· = true) (mscAt_officeBitTick hk half)).to_iff.trans decide_eq_true_iff
  case gap =>
    have gap : s.inGap 4096 = true := by simp [State.inGap, hj]
    refine ⟨_, exec_officeBit hr 256 false, rfl, fun t => ?_, ?_, ?_, rfl, rfl⟩
    · exact (s.driveOutputs_oda _ t).trans (by simp [State.odaAt, officeBitTick, gap])
    · exact (by simp [State.ockAt, gap] : s.ockAt 4096 = false)
    · exact Bool.eq_false_iff.mpr fun h => by simpa using (s.ofpAt_officeBitTick 256 false).mp h

end Sys2Proof.Machine
end

section
/-! PROOFS. The release of RSTn (R156): what it does to any station in reset, and what follows an assertion. -/

namespace Sys2Proof.Machine

/-- A monitor at the release, by the code of its strap (R102, R103). -/
theorem Monitor.release_refClass (m : Monitor) (p : Straps) (r : RefId) : m.release (p.refClass r) =
    if p.refCode r = 0b00#2 then { m with state := .absent }
    else { m with state := .down, activity := some 4608 } := by
  unfold Straps.refClass
  (repeat' split) <;> rfl

/-- What readout, the first page and the output lines leave of a station. -/
structure State.SameBesidePage (s u : State) : Prop where
  pins : u.pins = s.pins
  straps : u.straps = s.straps
  counters : u.counters = s.counters
  ftu : u.ftu = s.ftu
  monA : u.monA = s.monA
  monB : u.monB = s.monB
  selector : u.selector = s.selector
  modes : u.modes = s.modes
  rail : u.rail = s.rail
  listen : u.listen = s.listen
  pending : u.pending = s.pending
  inputs : u.inputs = s.inputs

theorem State.readoutBoundary_besidePage (s : State) : s.SameBesidePage s.readoutBoundary := by
  constructor <;> simp

/-- No readout touches a flag but SLIP (R50). -/
theorem State.readoutBoundary_flags_ne (s : State) {f : FlagId} (h : f ≠ .slip) :
    s.readoutBoundary.flags.get f = s.flags.get f := by
  obtain ⟨starts, quiet⟩ := s.readoutBoundary_flags
  by_cases hs : ∃ t, s.StartsRepeat t
  · rw [starts hs, Flags.get_raise_ne _ h]
  · rw [quiet hs]

theorem State.SameBesidePage.trans {a b c : State} (h : a.SameBesidePage b) (g : b.SameBesidePage c) :
    a.SameBesidePage c :=
  ⟨g.1.trans h.1, g.2.trans h.2, g.3.trans h.3, g.4.trans h.4, g.5.trans h.5, g.6.trans h.6, g.7.trans h.7,
    g.8.trans h.8, g.9.trans h.9, g.10.trans h.10, g.11.trans h.11, g.12.trans h.12⟩

theorem State.firstPage_besidePage (s : State) (b : Bool) : s.SameBesidePage (s.firstPage b) := by
  unfold State.firstPage
  split <;> constructor <;> simp

/-- The first page begins without an advance (R168). -/
theorem State.firstPage_page (s : State) (b : Bool) :
    (s.firstPage b).maint.pageCounter = s.maint.pageCounter ∧ (s.firstPage b).maint.pageSeq = s.maint.pageSeq := by
  cases b <;> exact ⟨rfl, rfl⟩

/-- RESTART is shown by the first page, or raised after its start (R171). -/
theorem State.firstPage_restart (s : State) (b : Bool) :
    (s.firstPage b).flags.restart = { v := true, s := true, x := false } ∨
      (s.firstPage b).flags.restart = { v := true, s := s.flags.restart.v, x := true } := by
  cases b
  · exact .inr rfl
  · exact .inl rfl

theorem State.firstPage_flags_ne (s : State) (b : Bool) {f : FlagId} (h : f ≠ .restart) :
    (s.firstPage b).flags.get f = (s.flags.get f).snapshot := by
  cases b
  · exact (Flags.get_raise_ne _ h).trans (Flags.get_each ..)
  · exact (Flags.get_each ..).trans (congrArg _ (Flags.get_raise_ne _ h))

section
variable (s : State) (p : Straps) (ej : Bool)

/-- The flags and the maintenance block that the first page leaves. -/
def State.releasePage : State :=
  (s.released p ej).readoutBoundary.firstPage (Config.restartBeforePage s.choiceSeq)

theorem State.takeRelease_eq : s.takeRelease p ej =
    { (s.releasePage p ej).driveOutputs 0 with railDue := true, choiceSeq := s.choiceSeq + 1 } := rfl

theorem State.takeRelease_flags : (s.takeRelease p ej).flags = (s.releasePage p ej).flags := by
  simp [State.takeRelease_eq]

theorem State.takeRelease_maint : (s.takeRelease p ej).maint = (s.releasePage p ej).maint := by
  simp [State.takeRelease_eq]

/-- Straps, first frame and LISTEN window apart, a release writes the tributaries with the free count, flags,
maintenance block and outputs. -/
theorem State.takeRelease_besidePage : (s.released p ej).SameBesidePage (s.takeRelease p ej) := by
  have page : (s.releasePage p ej).SameBesidePage (s.takeRelease p ej) := by
    rw [State.takeRelease_eq]
    constructor <;> simp
  exact (State.readoutBoundary_besidePage _).trans ((State.firstPage_besidePage _ _).trans page)

theorem State.takeRelease_trib (t : TribId) : (s.takeRelease p ej).trib t =
    (s.trib t).atBoundary (decide (t.val < p.tct.value)) p.dep.centre s.ftu.officeIndex s.stamp
      (s.released p ej).sharedFree := by
  have h : (s.takeRelease p ej).trib t = (s.released p ej).readoutBoundary.trib t := by
    simp only [State.trib, (s.takeRelease_flow p ej).1]
  rw [h, State.readoutBoundary_trib]
  rfl

theorem State.takeRelease_page : (s.takeRelease p ej).maint.pageCounter = s.maint.pageCounter ∧
    (s.takeRelease p ej).maint.pageSeq = s.maint.pageSeq := by
  have h := (s.released p ej).readoutBoundary.firstPage_page (Config.restartBeforePage s.choiceSeq)
  rw [State.readoutBoundary_maint] at h
  rw [State.takeRelease_maint]
  exact h

theorem State.takeRelease_restart :
    (s.takeRelease p ej).flags.restart = { v := true, s := true, x := false } ∨
      (s.takeRelease p ej).flags.restart = { v := true, s := s.flags.restart.v, x := true } := by
  have h := (s.released p ej).readoutBoundary.firstPage_restart (Config.restartBeforePage s.choiceSeq)
  have hv : (s.released p ej).readoutBoundary.flags.restart = s.flags.restart :=
    State.readoutBoundary_flags_ne (f := .restart) _ nofun
  rw [hv] at h
  rw [State.takeRelease_flags]
  exact h

/-- Where no repeat slip starts, every flag but RESTART is as it was, shown by the first page (R172). -/
theorem State.takeRelease_flags_ne (quiet : ¬ ∃ t, (s.released p ej).StartsRepeat t) {f : FlagId}
    (h : f ≠ .restart) : (s.takeRelease p ej).flags.get f = (s.flags.get f).snapshot := by
  have shown := (s.released p ej).readoutBoundary.firstPage_flags_ne (Config.restartBeforePage s.choiceSeq) h
  rw [(s.released p ej).readoutBoundary_flags.2 quiet] at shown
  rw [State.takeRelease_flags]
  exact shown

theorem State.takeRelease_showsBitZero : (s.takeRelease p ej).ShowsBitZero := by
  rw [State.takeRelease_eq]
  exact State.showsBitZero_of rfl rfl rfl

theorem State.takeRelease_monitor (r : RefId) :
    (s.takeRelease p ej).monitor r = (s.monitor r).release (p.refClass r) := by
  obtain ⟨-, -, -, -, monA, monB, -⟩ := s.takeRelease_besidePage p ej
  cases r
  · exact monA
  · exact monB

theorem exec_resetRelease {s : State} (hr : s.running = false) (p : Straps) (ej : Bool) :
    exec (.resetRelease p ej) s = .next (s.takeRelease p ej) := by
  simp [exec, execResetRelease, hr]

end

/-! The release after an assertion -/

/-- A tributary that the first frame finds as the assertion left it sends fill of index 0 and stays so (R45,
R66). -/
theorem Trib.reset_atBoundary (e : Bool) (centre shared : Nat) :
    Trib.reset.atBoundary e centre 0 ⟨0, 0⟩ shared = Trib.reset := by cases e <;> rfl

theorem State.resetBlocks_trib (s : State) (t : TribId) : s.resetBlocks.trib t = Trib.reset := State.reset_trib t

theorem State.resetBlocks_release_trib (s : State) (p : Straps) (ej : Bool) (t : TribId) :
    (s.resetBlocks.takeRelease p ej).trib t = Trib.reset := by
  rw [State.takeRelease_trib, State.resetBlocks_trib]
  exact Trib.reset_atBoundary ..

theorem State.resetBlocks_release_free (s : State) (p : Straps) (ej : Bool) :
    (s.resetBlocks.takeRelease p ej).free = 96 := by
  have law := (State.PoolLaw.resetBlocks s).takeRelease rfl p ej
  have held := State.held_of_blank (s := s.resetBlocks.takeRelease p ej) fun t => by
    rw [State.resetBlocks_release_trib]
    exact ⟨rfl, rfl, rfl, rfl⟩
  have cells := law.cells
  rwa [held, Nat.add_zero] at cells

theorem State.resetBlocks_release_flags (s : State) (p : Straps) (ej : Bool) {f : FlagId} (h : f ≠ .restart) :
    (s.resetBlocks.takeRelease p ej).flags.get f = { v := false, s := false, x := false } := by
  have quiet : ¬ ∃ t, (s.resetBlocks.released p ej).StartsRepeat t := fun ⟨t, _, _, hst, _⟩ => by
    rw [State.released_trib, State.resetBlocks_trib] at hst
    cases hst
  rw [State.takeRelease_flags_ne _ p ej quiet h]
  cases f <;> rfl

/-- Settles O7: the frame of a release and what its blocks write, first in any station in reset, then after an
assertion. -/
theorem resetReleaseStarts : Obligations.ResetReleaseStarts := by
  refine ⟨fun s p ej hr => ?any, fun s0 s p ej ha => ?asserted⟩
  case any =>
    obtain ⟨pins, straps, counters, ftu, -, -, selector, modes, rail, listen, pending, inputs⟩ :=
      s.takeRelease_besidePage p ej
    obtain ⟨counter, seq⟩ := s.takeRelease_page p ej
    refine ⟨_, exec_resetRelease hr p ej, pins, straps, ftu, fun r => ?monitor, listen, rail, selector, modes,
      counters, s.takeRelease_restart p ej, fun t => ?receiver, counter, seq, pending, inputs,
      s.takeRelease_showsBitZero p ej⟩
    case monitor => rw [State.takeRelease_monitor, Monitor.release_refClass]
    case receiver =>
      rw [State.takeRelease_trib]
      exact (Trib.atBoundary_receiver ..).1
  case asserted =>
    obtain rfl : s0.resetBlocks = s := Host.Outcome.next.inj ha
    obtain ⟨pins, straps, counters, ftu, -, -, -, modes, rail, listen, -, -⟩ :=
      s0.resetBlocks.takeRelease_besidePage p ej
    obtain ⟨counter, seq⟩ := s0.resetBlocks.takeRelease_page p ej
    have monitor (r : RefId) := (s0.resetBlocks.takeRelease_monitor p ej r).trans (Monitor.release_refClass ..)
    refine ⟨_, exec_resetRelease rfl p ej, congrArg InPins.rstn pins, straps, congrArg Ftu.tick ftu,
      congrArg Ftu.length ftu, congrArg Ftu.officeIndex ftu,
      congrArg (fun f : Ftu => (⟨f.seconds, f.frameInSecond⟩ : Stamp)) ftu, fun t => ?trib,
      s0.resetBlocks_release_free p ej, counters, fun r => ⟨fun h => ?absent, fun h => ?down⟩,
      congrArg ModeMachine.mode modes, congrArg ModeMachine.grade modes, fun line => ?line,
      congrArg Rail.width rail, congrArg Rail.listenWindow rail, congrArg Listen.withdrawn listen,
      congrArg Listen.phase listen, s0.resetBlocks.takeRelease_restart p ej,
      fun f h => s0.resetBlocks_release_flags p ej h, counter, seq⟩
    case trib =>
      rw [State.holdings, State.resetBlocks_release_trib]
      exact ⟨rfl, rfl, rfl, rfl, rfl⟩
    case absent => rw [monitor, if_pos h]
    case down =>
      rw [monitor, if_neg h]
      exact ⟨rfl, rfl⟩
    case line =>
      rw [State.ownLow, rail]
      cases line <;> rfl

end Sys2Proof.Machine
end

section
/-! PROOFS. The record of a tributary at a boundary (R50 to R52, R67, R71 to R76), with the flags there (R171,
R172). -/

namespace Sys2Proof.Machine

/-! The blocks of a boundary around the maintenance block (R169) -/

/-- What an operation leaves, it leaves also where it is done on a flag. -/
theorem applyWhen_reading {α : Type} {f : State → State} {r : State → α} (h : ∀ s, r (f s) = r s) (b : Bool)
    (s : State) : r (applyWhen b f s) = r s := by
  cases b
  · rfl
  · exact h s

/-- Monitors and station blocks, each as far as it works on this side of the maintenance block. -/
def State.othersWork (s : State) (monitors station ej begins early : Bool) : State :=
  applyWhen station (fun s => s.stationBoundary ej begins early) (applyWhen monitors State.monitorsBoundary s)

/-- The blocks that work before the maintenance block. -/
def State.beforePage (s : State) (n : Nat) (ej begins early : Bool) : State :=
  applyWhen (Config.readoutBeforePage n) State.readoutBoundary
    (s.othersWork (Config.monitorsBeforePage n) (Config.stationBeforePage n) ej begins early)

/-- The blocks that work after the maintenance block. -/
def State.afterPage (s : State) (n : Nat) (ej begins early : Bool) : State :=
  applyWhen (!Config.readoutBeforePage n) State.readoutBoundary
    (s.othersWork (!Config.monitorsBeforePage n) (!Config.stationBeforePage n) ej begins early)

section
variable {α : Type} {r : State → α} (monitors : ∀ s, r s.monitorsBoundary = r s)
  (station : ∀ s ej begins early, r (s.stationBoundary ej begins early) = r s)
include monitors station

theorem State.othersWork_reading (s : State) (m st ej begins early : Bool) :
    r (s.othersWork m st ej begins early) = r s :=
  (applyWhen_reading (fun s => station s ej begins early) _ _).trans (applyWhen_reading monitors _ _)

variable (readout : ∀ s, r s.readoutBoundary = r s)
include readout

/-- What none of the blocks writes is before the maintenance block as the boundary found it. -/
theorem State.beforePage_reading (s : State) (n : Nat) (ej begins early : Bool) :
    r (s.beforePage n ej begins early) = r s :=
  (applyWhen_reading readout _ _).trans (State.othersWork_reading monitors station ..)

theorem State.afterPage_reading (s : State) (n : Nat) (ej begins early : Bool) :
    r (s.afterPage n ej begins early) = r s :=
  (applyWhen_reading readout _ _).trans (State.othersWork_reading monitors station ..)

end

/-- The state that the maintenance block finds at a boundary. -/
def State.atPage (s : State) (ej : Bool) : State :=
  s.boundaryStart.beforePage s.choiceSeq ej s.ftu.joinRequest.isSome
    (s.listen.withdrawRequest && Config.withdrawBeforeFtu s.choiceSeq)

/-- The state that the last block of a boundary leaves, before the lines are driven. -/
def State.blocksDone (s : State) (ej : Bool) : State :=
  (s.atPage ej).pageBoundary.afterPage s.choiceSeq ej s.ftu.joinRequest.isSome
    (s.listen.withdrawRequest && Config.withdrawBeforeFtu s.choiceSeq)

theorem State.takeBoundary_blocksDone (s : State) (ej : Bool) : s.takeBoundary ej =
    { (s.blocksDone ej).driveOutputs 0 with railDue := true, choiceSeq := s.choiceSeq + 1 } := rfl

/-! The flags at a boundary -/

/-- A flag raised where b holds. -/
def Flags.raiseWhen (fs : Flags) (b : Bool) (f : FlagId) : Flags := if b then fs.raise f else fs

/-- The flag snapshots of a boundary that ends the frame of page counter p: those of a page start after 127 (R168,
R172). -/
def Flags.shownAfter (fs : Flags) (p : BitVec 7) : Flags := if p = 127 then fs.each Flag.snapshot else fs

theorem pageCounter_wraps (p : BitVec 7) : p + 1 = 0 ↔ p = 127 := by
  revert p
  decide

/-- A boundary that ends the frame of page counter 127 starts a page (R168, R169, R172). -/
theorem State.pageBoundary_start {s : State} (h : s.maint.pageCounter = 127) :
    s.pageBoundary = s.advancePage.pageStart.loadOctets := if_pos ((pageCounter_wraps _).mpr h)

theorem State.pageBoundary_within {s : State} (h : s.maint.pageCounter ≠ 127) :
    s.pageBoundary = s.advancePage.loadOctets := if_neg fun e => h ((pageCounter_wraps _).mp e)

theorem State.pageBoundary_flags (s : State) :
    s.pageBoundary.flags = s.flags.shownAfter s.maint.pageCounter := by
  unfold Flags.shownAfter
  split
  case isTrue h => rw [State.pageBoundary_start h]; rfl
  case isFalse h => rw [State.pageBoundary_within h]; rfl

/-- What decides where a repeat slip starts. -/
def State.slipInput (s : State) : Straps × Vector Trib 16 := (s.straps, s.tribs)

theorem State.startsRepeat_congr {s u : State} (h : u.slipInput = s.slipInput) (t : TribId) :
    u.StartsRepeat t ↔ s.StartsRepeat t := by
  obtain ⟨straps, tribs⟩ := Prod.mk.inj h
  simp only [State.StartsRepeat, State.enabled, State.trib, straps, tribs]

/-- Readout raises SLIP where a repeat slip starts (R50). -/
theorem State.readoutBoundary_raises {s u : State} (h : u.slipInput = s.slipInput) {b : Bool}
    (hb : b = true ↔ ∃ t, s.StartsRepeat t) : u.readoutBoundary.flags = u.flags.raiseWhen b .slip := by
  rw [← exists_congr fun t => State.startsRepeat_congr h t] at hb
  obtain ⟨starts, quiet⟩ := u.readoutBoundary_flags
  cases b
  · exact quiet fun e => absurd (hb.mpr e) nofun
  · exact starts (hb.mp rfl)

theorem State.othersWork_flags (s : State) (m st ej begins early : Bool) :
    let u := s.othersWork m st ej begins early
    u.slipInput = s.slipInput ∧ u.flags = s.flags ∧ u.maint = s.maint := by
  have h := State.othersWork_reading (r := fun s => (s.slipInput, s.flags, s.maint))
    (fun s => by simp [State.slipInput]) (fun s _ _ _ => by simp [State.slipInput]) s m st ej begins early
  simpa only [Prod.mk.injEq] using h

theorem State.boundaryStart_page (s : State) : s.boundaryStart.flags = s.flags ∧
    s.boundaryStart.maint = s.maint ∧ s.boundaryStart.counters = s.counters := by
  unfold State.boundaryStart
  cases (s.listen.withdrawRequest && Config.withdrawBeforeFtu s.choiceSeq) <;> simp

theorem State.boundaryStart_slipInput (s : State) : s.boundaryStart.slipInput = s.slipInput := by
  obtain ⟨tribs, -, straps⟩ := s.boundaryStart_flow
  rw [State.slipInput, tribs, straps, State.slipInput]

/-- The flags after a boundary: SLIP is raised where a repeat slip starts, before or after the snapshots of a page
start (R50, R169, R172). -/
theorem State.takeBoundary_flags (s : State) (ej : Bool) {b : Bool} (hb : b = true ↔ ∃ t, s.StartsRepeat t) :
    (s.takeBoundary ej).flags = (s.flags.raiseWhen b .slip).shownAfter s.maint.pageCounter ∨
      (s.takeBoundary ej).flags = (s.flags.shownAfter s.maint.pageCounter).raiseWhen b .slip := by
  have last : (s.takeBoundary ej).flags = (s.blocksDone ej).flags := by simp [State.takeBoundary_blocksDone]
  obtain ⟨startFlags, startMaint, -⟩ := s.boundaryStart_page
  rw [last, State.blocksDone, State.atPage]
  generalize (s.listen.withdrawRequest && Config.withdrawBeforeFtu s.choiceSeq) = early
  generalize s.ftu.joinRequest.isSome = begins
  unfold State.beforePage State.afterPage
  obtain ⟨input, flags, maint⟩ := s.boundaryStart.othersWork_flags (Config.monitorsBeforePage s.choiceSeq)
    (Config.stationBeforePage s.choiceSeq) ej begins early
  generalize s.boundaryStart.othersWork .. = x at input flags maint ⊢
  rw [startFlags] at flags
  rw [startMaint] at maint
  cases Config.readoutBeforePage s.choiceSeq
  case true =>
    left
    have raised := State.readoutBoundary_raises (input.trans s.boundaryStart_slipInput) hb
    rw [applyWhen_true, Bool.not_true, applyWhen_false, (State.othersWork_flags ..).2.1, State.pageBoundary_flags,
      State.readoutBoundary_maint, raised, flags, maint]
  case false =>
    right
    rw [applyWhen_false, Bool.not_false, applyWhen_true]
    obtain ⟨input', flags', -⟩ := x.pageBoundary.othersWork_flags (!Config.monitorsBeforePage s.choiceSeq)
      (!Config.stationBeforePage s.choiceSeq) ej begins early
    have page : x.pageBoundary.slipInput = x.slipInput := by simp [State.slipInput]
    rw [State.readoutBoundary_raises (input'.trans (page.trans (input.trans s.boundaryStart_slipInput))) hb, flags',
      State.pageBoundary_flags, flags, maint]

/-- A repeat slip that starts at a boundary sets SLIP (R50, R171). -/
theorem State.takeBoundary_slip {s : State} (ej : Bool) (h : ∃ t, s.StartsRepeat t) :
    (s.takeBoundary ej).flags.slip.v = true := by
  rcases s.takeBoundary_flags ej (b := true) (iff_of_true rfl h) with e | e
  · rw [e, Flags.shownAfter]
    split <;> rfl
  · rw [e]
    rfl

/-! The record at a boundary -/

section
variable {x : Trib} {centre : Nat} {index : BitVec 3} {stamp : Stamp} {shared : Nat}

/-- The queue length that the decision leaves is offered to the record that it leaves (R55). -/
theorem Trib.atBoundary_record :
    let y := x.atBoundary true centre index stamp shared
    y.record = (x.afterAction index stamp shared (x.decision centre)).record.offer stamp.frame y.store.queue.length :=
  rfl

/-- Fill leaves the record alone; a dequeue and the way to IDLE close a repeat slip in progress (R52). -/
theorem Trib.afterAction_closedRecord {a : ReadoutAction} (h : a = .dequeue ∨ a = .goIdle) :
    (x.afterAction index stamp shared a).record = x.closedRecord := by
  rcases h with rfl | rfl
  · unfold Trib.afterAction
    dsimp only
    split <;> rfl
  · rfl

theorem Trib.afterAction_continued : (x.afterAction index stamp shared .continueRepeat).record =
    x.record.repeatContinue (min 255 (x.repeatRun + 1)) := by
  rw [← satSucc_eq_min]
  rfl

theorem Trib.closedRecord_refill (h : x.storeState = .refill) : x.closedRecord = x.record.repeatClose := if_pos h

theorem Trib.closedRecord_other (h : x.storeState ≠ .refill) : x.closedRecord = x.record := if_neg h

/-- PRIME reports nothing, whatever it decides (R48). -/
theorem Trib.afterAction_prime (h : x.storeState = .prime) :
    (x.afterAction index stamp shared (x.decision centre)).record = x.record := by
  have closed {a : ReadoutAction} (ha : a = .dequeue ∨ a = .goIdle) :
      (x.afterAction index stamp shared a).record = x.record :=
    (Trib.afterAction_closedRecord ha).trans (Trib.closedRecord_other (by simp [h]))
  rw [Trib.decision_prime h]
  split
  · exact closed (.inl rfl)
  split
  · rfl
  split
  · exact closed (.inl rfl)
  · exact closed (.inr rfl)

end

/-- Settles O21: for each store state the decision, what it makes of the record, and the offer. -/
theorem boundaryRecord : Obligations.BoundaryRecord := by
  intro s ej t hr he
  refine ⟨s.takeBoundary ej, exec_officeBoundary hr ej, ?_⟩
  intro x r len offered
  have ht := s.takeBoundary_trib ej t
  rw [he] at ht
  have record {a : ReadoutAction} {q : Record} (ha : x.decision s.straps.dep.centre = a)
      (hq : (x.afterAction (s.takeBoundary ej).ftu.officeIndex (s.takeBoundary ej).stamp s.sharedFree a).record = q) :
      ((s.takeBoundary ej).trib t).record = offered q := by
    subst ha hq
    have hlen : len = _ := congrArg (fun y : Trib => y.store.queue.length) ht
    rw [ht, Trib.atBoundary_record, ← hlen]
    rfl
  have closed {q : Record} (ha : x.decision s.straps.dep.centre = .dequeue ∨ x.decision s.straps.dep.centre = .goIdle)
      (hq : x.closedRecord = q) : ((s.takeBoundary ej).trib t).record = offered q :=
    record rfl ((Trib.afterAction_closedRecord ha).trans hq)
  have hc : 1 ≤ s.straps.dep.centre := DepthLimit.centre_pos _
  refine ⟨fun hst => ?quiet, fun hst hq ha => ⟨?start, ?slip⟩, fun hst h => ?normal, fun hst ha hl => ?continued,
    fun hst h => ?close⟩
  case quiet =>
    rcases hst with hst | hst
    · exact record (Trib.decision_idle hst) rfl
    · exact record rfl (Trib.afterAction_prime hst)
  case start =>
    refine record (a := .startRepeat) ?_ rfl
    rw [Trib.decision_normal hst, hq, if_neg (by simp), if_pos ha]
  case slip => exact State.takeBoundary_slip ej ⟨t, he, ha, hst, hq⟩
  case normal =>
    refine closed ?_ (Trib.closedRecord_other (by simp [hst]))
    rw [Trib.decision_normal hst]
    by_cases hl : 1 ≤ x.store.queue.length
    · exact .inl (if_pos hl)
    · rw [if_neg hl, if_neg (h.resolve_left hl)]
      exact .inr rfl
  case continued =>
    refine record (a := .continueRepeat) ?_ Trib.afterAction_continued
    rw [Trib.decision_refill hst, if_pos ha, if_pos hl]
  case close =>
    refine closed ?_ (Trib.closedRecord_refill hst)
    rw [Trib.decision_refill hst]
    by_cases ha : x.rx.align = .aligned
    · rw [if_pos ha, if_neg (h.resolve_left (not_not_intro ha)).not_gt]
      exact .inl rfl
    · rw [if_neg ha]
      exact ite_eq_or_eq ..

end Sys2Proof.Machine
end

section
/-! PROOFS. The maintenance page at a boundary (R167 to R170, R172): what the maintenance block finds there, the
header that a page start takes, and the octets of every frame. -/

namespace Sys2Proof.Machine

/-! What the maintenance block finds, by readings of the state (R169) -/

/-- An operation leaves a reading of the state as it was. -/
def Keeps {α : Type} (r : State → α) (f : State → State) : Prop := ∀ s, r (f s) = r s

section
variable {α : Type} {r : State → α}
  (finish : ∀ s n, r { s.driveOutputs 0 with railDue := true, choiceSeq := n } = r s)
include finish

theorem State.takeBoundary_reading (s : State) (ej : Bool) : r (s.takeBoundary ej) = r (s.blocksDone ej) := by
  rw [State.takeBoundary_blocksDone]
  exact finish ..

/-- What the other blocks leave is at the end as the maintenance block leaves it. -/
theorem State.takeBoundary_afterPage (monitors : Keeps r State.monitorsBoundary)
    (station : ∀ s ej begins early, r (s.stationBoundary ej begins early) = r s)
    (readout : Keeps r State.readoutBoundary) (s : State) (ej : Bool) :
    r (s.takeBoundary ej) = r (s.atPage ej).pageBoundary :=
  (s.takeBoundary_reading finish ej).trans (State.afterPage_reading monitors station readout ..)

variable (page : Keeps r State.pageBoundary)
include page

/-- What of all these blocks readout alone may write, the maintenance block finds as it stood before them, or as the
boundary leaves it. -/
theorem State.atPage_readout (monitors : Keeps r State.monitorsBoundary)
    (station : ∀ s ej begins early, r (s.stationBoundary ej begins early) = r s) (s : State) (ej : Bool) :
    r (s.atPage ej) = r s.boundaryStart ∨ r (s.atPage ej) = r (s.takeBoundary ej) := by
  rw [s.takeBoundary_reading finish ej]
  have others := State.othersWork_reading monitors station
  cases h : Config.readoutBeforePage s.choiceSeq
  · left
    rw [State.atPage, State.beforePage, h, applyWhen_false, others]
  · right
    rw [State.blocksDone, State.afterPage, h, Bool.not_true, applyWhen_false, others, page]

/-- The same of what the monitors alone may write. -/
theorem State.atPage_monitors (station : ∀ s ej begins early, r (s.stationBoundary ej begins early) = r s)
    (readout : Keeps r State.readoutBoundary) (s : State) (ej : Bool) :
    r (s.atPage ej) = r s.boundaryStart ∨ r (s.atPage ej) = r (s.takeBoundary ej) := by
  rw [s.takeBoundary_reading finish ej]
  have stationWhen (b ej begins early : Bool) := applyWhen_reading (fun s => station s ej begins early) b
  cases h : Config.monitorsBeforePage s.choiceSeq
  · left
    rw [State.atPage, State.beforePage, applyWhen_reading readout, State.othersWork, stationWhen, h, applyWhen_false]
  · right
    rw [State.blocksDone, State.afterPage, applyWhen_reading readout, State.othersWork, stationWhen, h, Bool.not_true,
      applyWhen_false, page]

/-- The same of what the station's blocks alone may write. -/
theorem State.atPage_station (monitors : Keeps r State.monitorsBoundary) (readout : Keeps r State.readoutBoundary)
    (s : State) (ej : Bool) :
    r (s.atPage ej) = r s.boundaryStart ∨ r (s.atPage ej) = r (s.takeBoundary ej) := by
  rw [s.takeBoundary_reading finish ej]
  cases h : Config.stationBeforePage s.choiceSeq
  · left
    rw [State.atPage, State.beforePage, applyWhen_reading readout, State.othersWork, h, applyWhen_false,
      applyWhen_reading monitors]
  · right
    rw [State.blocksDone, State.afterPage, applyWhen_reading readout, State.othersWork, h, Bool.not_true,
      applyWhen_false, applyWhen_reading monitors, page]

end

/-! The fields that the page shows, at the maintenance block's turn -/

section
variable (s : State) (ej : Bool)

theorem State.atPage_maint : (s.atPage ej).maint = s.maint :=
  (State.beforePage_reading (r := State.maint) (by simp) (by simp) (by simp) ..).trans s.boundaryStart_page.2.1

theorem State.atPage_counters : (s.atPage ej).counters = s.counters :=
  (State.beforePage_reading (r := State.counters) (by simp) (by simp) (by simp) ..).trans s.boundaryStart_page.2.2

theorem State.atPage_straps : (s.atPage ej).straps = s.straps :=
  (State.beforePage_reading (r := State.straps) (by simp) (by simp) (by simp) ..).trans s.boundaryStart_flow.2.2

/-- Tributaries and free count stand before readout or after it. -/
theorem State.atPage_cells : ((s.atPage ej).tribs = s.tribs ∧ (s.atPage ej).free = s.free) ∨
    ((s.atPage ej).tribs = (s.takeBoundary ej).tribs ∧ (s.atPage ej).free = (s.takeBoundary ej).free) := by
  obtain ⟨tribs, free, -⟩ := s.boundaryStart_flow
  have h := State.atPage_readout (r := fun s => (s.tribs, s.free)) (fun _ _ => by simp) (fun s => by simp)
    (fun s => by simp) (fun s _ _ _ => by simp) s ej
  simpa only [Prod.mk.injEq, tribs, free] using h

theorem State.atPage_bothMonitors : ((s.atPage ej).monA = s.monA ∧ (s.atPage ej).monB = s.monB) ∨
    ((s.atPage ej).monA = (s.takeBoundary ej).monA ∧ (s.atPage ej).monB = (s.takeBoundary ej).monB) := by
  have start : s.boundaryStart.monA = s.monA ∧ s.boundaryStart.monB = s.monB := by
    unfold State.boundaryStart
    cases (s.listen.withdrawRequest && Config.withdrawBeforeFtu s.choiceSeq) <;> simp
  have h := State.atPage_monitors (r := fun s => (s.monA, s.monB)) (fun _ _ => by simp) (fun s => by simp)
    (fun s _ _ _ => by simp) (fun s => by simp) s ej
  simpa only [Prod.mk.injEq, start] using h

/-- What the page shows of mode machine, rail, LISTEN procedure, gain set and selector, and their boundary work may
write; the window width stands apart, since a station in LISTEN writes it also after an early withdrawal. -/
def State.stationShown (s : State) : Mode × Option Nat × Bool × Bool × GainSet × Option RefId :=
  (s.modes.mode, s.modes.grade, s.rail.drivingLead, s.listen.withdrawn, s.ftu.gain, s.selector.selected)

theorem State.SameStation.shown {a b : State} (h : a.SameStation b) : a.stationShown = b.stationShown := by
  simp only [State.stationShown, h.modes, h.rail, h.listen, h.ftu, h.selector]

theorem State.lines_same (n : Nat) :
    State.SameStation { s.driveOutputs 0 with railDue := true, choiceSeq := n } s :=
  ⟨by simp, by simp, by simp, by simp, by simp, by simp, by simp, by simp, by simp⟩

theorem State.takeWithdrawal_joined : s.takeWithdrawal.joined = false := by
  unfold State.takeWithdrawal
  cases h : s.joined
  · exact h
  · rfl

theorem State.takeWithdrawal_width : s.takeWithdrawal.rail.width = s.rail.width := by
  unfold State.takeWithdrawal
  dsimp only
  split <;> rfl

theorem State.boundaryStart_width : s.boundaryStart.rail.width = s.rail.width := by
  unfold State.boundaryStart
  cases (s.listen.withdrawRequest && Config.withdrawBeforeFtu s.choiceSeq)
  · rfl
  · exact s.closeListenWindow.takeWithdrawal_width

/-- A withdrawal taken before the FTU's work is all that the station's blocks do to what the page shows (R163). -/
theorem State.boundaryStart_shown :
    s.boundaryStart.stationShown = s.stationShown ∨
      s.boundaryStart.stationShown = (s.takeBoundary ej).stationShown := by
  rw [(s.takeBoundary_same ej).shown]
  unfold State.boundaryStart
  cases (s.listen.withdrawRequest && Config.withdrawBeforeFtu s.choiceSeq)
  case false =>
    left
    obtain ⟨-, -, gain, -⟩ := s.ftu.boundary_keeps s.modes.mode
    have lead : s.closeListenWindow.rail.drivingLead = s.rail.drivingLead := rfl
    simp [State.stationShown, State.ftuBoundary, gain, lead]
  case true =>
    right
    have alone : s.closeListenWindow.takeWithdrawal.ftuBoundary.joined = false :=
      s.closeListenWindow.takeWithdrawal_joined
    simp only [applyWhen_true, State.stationBoundary, if_true, State.railBoundary, alone]
    rfl

theorem State.atPage_shown : (s.atPage ej).stationShown = s.stationShown ∨
    (s.atPage ej).stationShown = (s.takeBoundary ej).stationShown := by
  have h := State.atPage_station (r := State.stationShown) (fun s n => (s.lines_same n).shown)
    (fun s => s.pageBoundary_same.shown)
    (fun s => s.monitorsBoundary_same.shown) (fun s => s.readoutBoundary_same.shown) s ej
  rcases h with h | h
  · rw [h]
    exact s.boundaryStart_shown ej
  · exact .inr h

theorem State.atPage_width : (s.atPage ej).rail.width = s.rail.width ∨
    (s.atPage ej).rail.width = (s.takeBoundary ej).rail.width := by
  have h := State.atPage_station (r := fun s => s.rail.width) (fun _ _ => by simp) (fun s => by simp)
    (fun s => by simp) (fun s => by simp) s ej
  rwa [s.boundaryStart_width] at h

theorem State.passage_holdAge (begins : Bool) : (s.passage ej begins).ftu.holdAge = s.ftu.holdAge := by
  unfold State.passage
  (repeat' split)
  · unfold State.takeWithdrawal
    dsimp only
    split <;> rfl
  · unfold State.takeJoin
    dsimp only
    split <;> rfl
  all_goals rfl

theorem State.stationBoundary_holdAge (begins early : Bool) :
    (s.stationBoundary ej begins early).ftu.holdAge = s.ftu.holdAge := by
  unfold State.stationBoundary
  rw [State.railBoundary_ftu]
  cases early
  · exact s.passage_holdAge ej begins
  · rfl

/-- What the page shows of FTU, selector and rail, and no block after the FTU writes at a boundary. -/
def State.steadyShown (s : State) :
    Int × Int × Option Int × Nat × (BitVec 3 × Nat × BitVec 32) × Int × Nat × Int :=
  (s.ftu.integral, s.ftu.history, s.ftu.lastError, s.ftu.holdAge, s.ftu.clock, s.selector.buildOut,
    s.rail.bestGrade, s.rail.leadSpread)

theorem State.SameStation.steady {a b : State} (h : a.SameStation b) : a.steadyShown = b.steadyShown := by
  simp only [State.steadyShown, h.ftu, h.selector, h.rail]

theorem State.stationBoundary_steady (begins early : Bool) :
    (s.stationBoundary ej begins early).steadyShown = s.steadyShown := by
  have lasts := s.stationBoundary_lasts ej begins early
  simp only [State.steadyShown, lasts.ftu.integral, lasts.ftu.history, lasts.ftu.lastError, lasts.buildOut,
    lasts.rail.bestGrade, lasts.rail.leadSpread, s.stationBoundary_holdAge ej begins early,
    s.stationBoundary_clock ej begins early]

theorem State.takeBoundary_steady : (s.takeBoundary ej).steadyShown = (s.atPage ej).steadyShown :=
  (State.takeBoundary_afterPage (fun s n => (s.lines_same n).steady) (fun s => s.monitorsBoundary_same.steady)
    State.stationBoundary_steady (fun s => s.readoutBoundary_same.steady) s ej).trans
    (State.pageBoundary_same _).steady

end

/-! The maintenance block's own work -/

/-- At the end of a boundary the page stands as the maintenance block leaves it (R168, R169). -/
theorem State.takeBoundary_maint (s : State) (ej : Bool) :
    (s.takeBoundary ej).maint = (s.atPage ej).pageBoundary.maint :=
  State.takeBoundary_afterPage (r := State.maint) (fun _ _ => by simp) (fun s => by simp) (fun s _ _ _ => by simp)
    (fun s => by simp) s ej

theorem State.pageBoundary_pageCounter (s : State) : s.pageBoundary.maint.pageCounter = s.maint.pageCounter + 1 := by
  unfold State.pageBoundary
  dsimp only
  split <;> rfl

/-- Away from a page start header and page sequence stay (R168, R169). -/
theorem State.pageBoundary_within_maint {s : State} (h : s.maint.pageCounter ≠ 127) :
    s.pageBoundary.maint.pageSeq = s.maint.pageSeq ∧ s.pageBoundary.maint.header = s.maint.header := by
  rw [State.pageBoundary_within h]
  exact ⟨if_neg fun e => h ((pageCounter_wraps _).mp e), rfl⟩

/-- A page start takes the header with the new sequence and the flags just shown, and sends its first two octets
(R168, R169, R172). -/
theorem State.pageBoundary_start_maint {s : State} (h : s.maint.pageCounter = 127) :
    s.pageBoundary.maint.pageSeq = s.maint.pageSeq + 1 ∧
    s.pageBoundary.maint.header = s.advancePage.snapshotFlags.headerOctets ∧
    s.pageBoundary.maint.octetHi = s.maint.pageSeq + 1 ∧
    s.pageBoundary.maint.octetLo = octet s.straps.stn.val := by
  have wraps := (pageCounter_wraps _).mpr h
  have seq : s.advancePage.maint.pageSeq = s.maint.pageSeq + 1 := if_pos wraps
  have counter : s.advancePage.pageStart.maint.pageCounter = 0 := wraps
  have first (c : List Octet) : s.advancePage.pageStart.pageOctet 0 c = (s.advancePage.maint.pageSeq, []) := rfl
  have second (c : List Octet) : s.advancePage.pageStart.pageOctet 1 c = (octet s.straps.stn.val, []) := rfl
  rw [State.pageBoundary_start h]
  refine ⟨seq, rfl, ?_, ?_⟩ <;> simp [State.loadOctets, counter, first, second, seq]

theorem State.headerOctets_length (s : State) : s.headerOctets.length = 32 := rfl

/-- Readout shows no flag (R171). -/
theorem State.readoutBoundary_snapshotBits (s : State) :
    s.readoutBoundary.flags.snapshotBits = s.flags.snapshotBits := by
  obtain ⟨starts, quiet⟩ := s.readoutBoundary_flags
  by_cases h : ∃ t, s.StartsRepeat t
  · rw [starts h]; rfl
  · rw [quiet h]

/-- The flags that the header of a page shows are those of the flags' S marks at the end of the boundary. -/
theorem State.takeBoundary_snapshotBits {s : State} (ej : Bool) (h : s.maint.pageCounter = 127) :
    (s.takeBoundary ej).flags.snapshotBits = (s.atPage ej).advancePage.snapshotFlags.flags.snapshotBits := by
  have kept := State.takeBoundary_afterPage (r := fun s => s.flags.snapshotBits) (fun _ _ => by simp)
    (fun s => by simp) (fun s _ _ _ => by simp) State.readoutBoundary_snapshotBits s ej
  rw [kept, State.pageBoundary_start (by rw [State.atPage_maint]; exact h)]
  rfl

/-! Flags raised and shown -/

theorem Flags.raiseWhen_get_ne (fs : Flags) (b : Bool) {f g : FlagId} (h : g ≠ f ∨ b = false) :
    (fs.raiseWhen b f).get g = fs.get g := by
  cases b
  · rfl
  · exact Flags.get_raise_ne _ (h.resolve_right nofun)

theorem Flags.raiseWhen_get_s (fs : Flags) (b : Bool) (f g : FlagId) :
    ((fs.raiseWhen b f).get g).s = (fs.get g).s := by
  by_cases h : g = f ∧ b = true
  · obtain ⟨rfl, rfl⟩ := h
    rw [Flags.raiseWhen, if_pos rfl, Flags.get_raise]
  · rw [Flags.raiseWhen_get_ne]
    simpa [or_iff_not_imp_left] using h

theorem Flags.shownAfter_start (fs : Flags) : fs.shownAfter 127 = fs.each Flag.snapshot := if_pos rfl

theorem Flags.shownAfter_within (fs : Flags) {p : BitVec 7} (h : p ≠ 127) : fs.shownAfter p = fs := if_neg h

/-! The octets of a frame -/

/-- The octets that a frame sends, with those of its field that are carried on. -/
def Maint.sent (m : Maint) : List Octet := [m.octetHi, m.octetLo] ++ m.carry

section
variable {s : State} {n : Nat} {c : List Octet}

theorem State.pageOctet_header (h : n < 32) : s.pageOctet n c = (s.maint.header.getD n 0, []) := if_pos h

/-- A field is read whole where it begins (R169). -/
theorem State.pageOctet_begins {o : Octet} {rest : List Octet} (h : 32 ≤ n) (hf : s.fieldAt n = o :: rest) :
    s.pageOctet n c = (o, rest) := by
  rw [State.pageOctet, if_neg h.not_gt, hf]

/-- Where no field begins, the field read before goes on (R169). -/
theorem State.pageOctet_goesOn (h : 32 ≤ n) (hf : s.fieldAt n = []) : s.pageOctet n c = (c.headD 0, c.drop 1) := by
  rw [State.pageOctet, if_neg h.not_gt, hf]

theorem State.loadOctets_sent (hn : 2 * s.maint.pageCounter.toNat = n) : s.loadOctets.maint.sent =
    [(s.pageOctet n s.maint.carry).1, (s.pageOctet (n + 1) (s.pageOctet n s.maint.carry).2).1] ++
      (s.pageOctet (n + 1) (s.pageOctet n s.maint.carry).2).2 := by
  subst hn
  rfl

end

section
variable {s : State} {n : Nat} (hn : 2 * s.maint.pageCounter.toNat = n)
include hn

theorem State.sent_header (h : n < 31) :
    s.loadOctets.maint.sent = [s.maint.header.getD n 0, s.maint.header.getD (n + 1) 0] := by
  rw [State.loadOctets_sent hn, State.pageOctet_header (by omega), State.pageOctet_header (by omega)]
  rfl

variable (h : 32 ≤ n) {o o' : Octet} {rest : List Octet}
include h

/-- A field of one octet, and a field that begins at the frame's second octet. -/
theorem State.sent_octet_field (hi : s.fieldAt n = [o]) (lo : s.fieldAt (n + 1) = o' :: rest) :
    s.loadOctets.maint.sent = o :: o' :: rest := by
  rw [State.loadOctets_sent hn, State.pageOctet_begins h hi, State.pageOctet_begins (by omega) lo]
  rfl

/-- A field of two octets or more that begins with the frame. -/
theorem State.sent_field (hi : s.fieldAt n = o :: o' :: rest) (lo : s.fieldAt (n + 1) = []) :
    s.loadOctets.maint.sent = o :: o' :: rest := by
  rw [State.loadOctets_sent hn, State.pageOctet_begins h hi, State.pageOctet_goesOn (by omega) lo]
  rfl

/-- The last octet of a field carried, and a field that begins at the frame's second octet. -/
theorem State.sent_carry_field (hi : s.fieldAt n = []) (lo : s.fieldAt (n + 1) = o :: rest) :
    s.loadOctets.maint.sent = s.maint.carry.getD 0 0 :: o :: rest := by
  rw [State.loadOctets_sent hn, State.pageOctet_goesOn h hi, State.pageOctet_begins (by omega) lo]
  cases s.maint.carry <;> rfl

/-- Two octets of a field carried. -/
theorem State.sent_carry (hi : s.fieldAt n = []) (lo : s.fieldAt (n + 1) = []) :
    s.loadOctets.maint.sent = [s.maint.carry.getD 0 0, s.maint.carry.getD 1 0] ++ s.maint.carry.drop 2 := by
  rw [State.loadOctets_sent hn, State.pageOctet_goesOn h hi, State.pageOctet_goesOn (by omega) lo]
  match s.maint.carry with
  | [] => rfl
  | [_] => rfl
  | _ :: _ :: _ => rfl

end

/-- Octets 32 to 223 are the tributary summaries, twelve octets each (R168, R170). -/
theorem State.fieldAt_summary (s : State) {n : Nat} {t : TribId} (h : n < 224) (ht : t.val = (n - 32) / 12) :
    s.fieldAt n = s.summaryField t ((n - 32) % 12) := by
  rw [State.fieldAt, if_pos h, ← ht]
  congr
  exact Fin.ofNat_val_eq_self t

/-- The rotating detail is that of tributary sequence mod 16 (R168). -/
theorem State.detailTrib_eq {s : State} {t : TribId} (h : t.val = s.maint.pageSeq.toNat % 16) : s.detailTrib = t := by
  ext
  simp [State.detailTrib, h]


theorem State.sharedInUse_congr {s u : State} (straps : u.straps = s.straps) (tribs : u.tribs = s.tribs) :
    u.sharedInUse = s.sharedInUse := by
  have he : u.enabled = s.enabled := funext fun t => by rw [State.enabled, straps, State.enabled]
  have hh : u.holdings = s.holdings := funext fun t => by rw [State.holdings, State.trib, tribs]; rfl
  rw [State.sharedInUse, State.enabledTribs, he, hh]
  rfl

theorem mem_pair_of_or {α : Type} {a b c : α} (h : a = b ∨ a = c) : a ∈ [b, c] := by simpa using h

/-- Counter, sequence, header and first octets of the page at a boundary, at a page start and elsewhere (R168,
R169). -/
theorem State.takeBoundary_page (s : State) (ej : Bool) :
    let u := s.takeBoundary ej
    u.maint.pageCounter = s.maint.pageCounter + 1 ∧
    (s.maint.pageCounter ≠ 127 → u.maint.pageSeq = s.maint.pageSeq ∧ u.maint.header = s.maint.header) ∧
    (s.maint.pageCounter = 127 → u.maint.pageSeq = s.maint.pageSeq + 1 ∧
      u.maint.header = (s.atPage ej).advancePage.snapshotFlags.headerOctets ∧
      u.maint.octetHi = s.maint.pageSeq + 1 ∧ u.maint.octetLo = octet s.straps.stn.val) := by
  dsimp only
  have maint := s.atPage_maint ej
  rw [State.takeBoundary_maint, State.pageBoundary_pageCounter, ← maint, ← s.atPage_straps ej]
  exact ⟨rfl, State.pageBoundary_within_maint, State.pageBoundary_start_maint⟩

/-- At a page start a flag that readout does not raise is shown as it was (R172). -/
theorem State.takeBoundary_start_flags {s : State} (ej : Bool) (h : s.maint.pageCounter = 127) {b : Bool}
    (hb : b = true ↔ ∃ t, s.StartsRepeat t) {f : FlagId} (hf : f ≠ .slip ∨ b = false) :
    (s.takeBoundary ej).flags.get f = (s.flags.get f).snapshot := by
  rcases s.takeBoundary_flags ej hb with e | e
  · rw [e, h, Flags.shownAfter_start, Flags.get_each, Flags.raiseWhen_get_ne _ _ hf]
  · rw [e, h, Flags.shownAfter_start, Flags.raiseWhen_get_ne _ _ hf, Flags.get_each]

/-- At a page start a repeat slip raises SLIP before the snapshots or after them (R50, R172). -/
theorem State.takeBoundary_start_slip {s : State} (ej : Bool) (h : s.maint.pageCounter = 127)
    (hs : ∃ t, s.StartsRepeat t) :
    (s.takeBoundary ej).flags.slip = { v := true, s := true, x := false } ∨
      (s.takeBoundary ej).flags.slip = { v := true, s := s.flags.slip.v, x := true } := by
  refine (s.takeBoundary_flags ej (b := true) (iff_of_true rfl hs)).imp (fun e => ?_) fun e => ?_
  all_goals
    rw [e, h, Flags.shownAfter_start]
    rfl

/-! The frames of the page, by their page counter (R170) -/

section
variable {s : State} {p : Nat} (hn : 2 * s.maint.pageCounter.toNat = 2 * p) {t : TribId}
include hn

/-- The six frames of a tributary's summary. -/
theorem State.sent_summary (h16 : 16 ≤ p) (h111 : p ≤ 111) (ht : t.val = (p - 16) / 6) :
    let r := (s.trib t).record
    let sends := fun l => s.loadOctets.maint.sent = l
    ((p - 16) % 6 = 0 → sends [s.statusOctet t, octet (s.trib t).store.queue.length]) ∧
    ((p - 16) % 6 = 1 → sends [octet r.low, octet r.high]) ∧
    ((p - 16) % 6 = 2 → sends (octets16 r.repeatEvents)) ∧
    ((p - 16) % 6 = 3 → sends (octets16 r.deleteEvents)) ∧
    ((p - 16) % 6 = 4 → sends (octets16 r.squeezes)) ∧
    ((p - 16) % 6 = 5 → sends (octets16 r.repeatedFrames)) := by
  have h32 : 32 ≤ 2 * p := by omega
  have hi {k : Nat} (hk : (p - 16) % 6 = k) : s.fieldAt (2 * p) = s.summaryField t (2 * k) := by
    rw [s.fieldAt_summary (t := t) (by omega) (by omega)]
    congr 1
    omega
  have lo {k : Nat} (hk : (p - 16) % 6 = k) : s.fieldAt (2 * p + 1) = s.summaryField t (2 * k + 1) := by
    rw [s.fieldAt_summary (t := t) (by omega) (by omega)]
    congr 1
    omega
  exact ⟨fun hk => State.sent_octet_field hn h32 (hi hk) (lo hk),
    fun hk => State.sent_octet_field hn h32 (hi hk) (lo hk),
    fun hk => State.sent_field hn h32 (hi hk) (lo hk), fun hk => State.sent_field hn h32 (hi hk) (lo hk),
    fun hk => State.sent_field hn h32 (hi hk) (lo hk), fun hk => State.sent_field hn h32 (hi hk) (lo hk)⟩

/-- The sixteen frames of the rotating detail: a field that does not end with its frame is carried on. -/
theorem State.sent_detail (ht : 112 ≤ p → t.val = s.maint.pageSeq.toNat % 16) :
    let r := (s.trib t).record
    let sends := fun l => s.loadOctets.maint.sent = l
    let held := fun n => s.maint.carry.getD n 0
    (p = 112 → sends (octet t.val :: slipOctets r.firstSlip)) ∧
    (p = 116 → sends (slipOctets r.lastSlip)) ∧
    (p = 113 ∨ p = 114 ∨ p = 115 ∨ p = 117 ∨ p = 118 ∨ p = 120 →
      sends ([held 0, held 1] ++ s.maint.carry.drop 2)) ∧
    (p = 119 → sends (held 0 :: detailOctets r.detail)) ∧
    (p = 121 → sends (held 0 :: octets16 r.deletedFrames)) ∧
    (p = 122 → sends (held 0 :: octets16 r.alignLosses)) ∧
    (p = 123 → sends (held 0 :: octets16 r.darkEntries)) ∧
    (p = 124 → sends (held 0 :: octets16 r.evictionsCaused)) ∧
    (p = 125 → sends [held 0, octet (s.holdings t)]) ∧
    (p = 126 → sends [octet r.currentRun, (s.trib t).rx.lastSync]) ∧
    (p = 127 → sends [s.stationCounterOctet, 0xA5]) := by
  have slip (m : Option SlipMark) : ∃ o o' rest, slipOctets m = o :: o' :: rest := by
    cases m <;> exact ⟨_, _, _, rfl⟩
  have detail (d : Option SlipDetail) : ∃ o rest, detailOctets d = o :: rest := by
    cases d <;> exact ⟨_, _, rfl⟩
  refine ⟨?first, ?last, ?carried, ?detail, ?_, ?_, ?_, ?_, ?_, ?_, ?_⟩
  case first =>
    rintro rfl
    obtain rfl := State.detailTrib_eq (ht (by decide))
    obtain ⟨o, o', rest, e⟩ := slip (s.trib s.detailTrib).record.firstSlip
    rw [e]
    exact State.sent_octet_field hn (by decide) rfl e
  case last =>
    rintro rfl
    obtain rfl := State.detailTrib_eq (ht (by decide))
    obtain ⟨o, o', rest, e⟩ := slip (s.trib s.detailTrib).record.lastSlip
    rw [e]
    exact State.sent_field hn (by decide) e rfl
  case carried => rintro (rfl | rfl | rfl | rfl | rfl | rfl) <;> exact State.sent_carry hn (by decide) rfl rfl
  case detail =>
    rintro rfl
    obtain rfl := State.detailTrib_eq (ht (by decide))
    obtain ⟨o, rest, e⟩ := detail (s.trib s.detailTrib).record.detail
    rw [e]
    exact State.sent_carry_field hn (by decide) rfl e
  all_goals
    rintro rfl
    obtain rfl := State.detailTrib_eq (ht (by decide))
  iterate 5 exact State.sent_carry_field hn (by decide) rfl rfl
  iterate 2 exact State.sent_octet_field hn (by decide) rfl rfl

end

theorem State.stationCounterOctet_eq (s : State) : s.stationCounterOctet =
    if s.maint.pageSeq.toNat % 3 = 0 then s.counters.holdEntries.setWidth 8
    else if s.maint.pageSeq.toNat % 3 = 1 then s.counters.relabels.setWidth 8
    else s.counters.leadLost.setWidth 8 := by
  unfold State.stationCounterOctet
  split
  case h_1 h => rw [if_pos h]
  case h_2 h => rw [h]; rfl
  case h_3 h0 h1 => rw [if_neg h0, if_neg h1]

/-- What the octets of a frame that does not start a page are taken from: the page of the frame before, the station's
straps and counters, and each tributary before readout or after it (R169, R170). -/
theorem State.takeBoundary_loads {s : State} (ej : Bool) (h : s.maint.pageCounter ≠ 127) :
    ∃ w : State, (s.takeBoundary ej).maint = w.loadOctets.maint ∧
      w.maint = { s.maint with pageCounter := s.maint.pageCounter + 1 } ∧ w.straps = s.straps ∧
      w.counters = s.counters ∧ ∀ t, w.trib t ∈ [s.trib t, (s.takeBoundary ej).trib t] := by
  refine ⟨(s.atPage ej).advancePage, ?loads, ?maint, s.atPage_straps ej, s.atPage_counters ej, fun t => ?trib⟩
  case loads => rw [State.takeBoundary_maint, State.pageBoundary_within (by rwa [s.atPage_maint ej])]
  case maint =>
    rw [← s.atPage_maint ej] at h ⊢
    rw [State.advancePage, if_neg fun e => h ((pageCounter_wraps _).mp e)]
  case trib =>
    have cells := (s.atPage_cells ej).imp And.left And.left
    exact mem_pair_of_or (cells.imp (congrArg (·[t])) (congrArg (·[t])))

/-- Settles O55: the page at the boundary with the flags; the header, each field as the maintenance block finds it;
the octets of a frame by its page counter. -/
theorem pageBoundary : Obligations.PageBoundary := by
  refine ⟨fun s ej hr => ?page, fun s ej hr h127 => ?header, fun s ej p t hr hp h1 hsum hdet => ?octets⟩
  case page =>
    intro starts
    obtain ⟨b, hb⟩ : ∃ b : Bool, b = true ↔ starts := ⟨@decide starts (Classical.dec _), by simp⟩
    obtain ⟨counter, within, start⟩ := s.takeBoundary_page ej
    refine ⟨s.takeBoundary ej, exec_officeBoundary hr ej, counter, fun h => ?_, fun h => ?_⟩
    · obtain ⟨seq, header⟩ := within h
      have flags : (s.takeBoundary ej).flags = s.flags.raiseWhen b .slip := by
        simpa only [Flags.shownAfter_within _ h, or_self] using s.takeBoundary_flags ej hb
      refine ⟨seq, header, fun f => ?_, fun hn => ?_, fun hs => ?_⟩
      · rw [flags, Flags.raiseWhen_get_s]
      · rw [flags, Bool.eq_false_iff.mpr fun e => hn (hb.mp e)]
        rfl
      · rw [flags, hb.mpr hs]
        rfl
    · obtain ⟨seq, header, hi, lo⟩ := start h
      refine ⟨seq, ?_, hi, lo, fun f hf => ?_, fun hs => State.takeBoundary_start_slip ej h hs⟩
      · rw [header, State.headerOctets_length]
      · have still := hf.imp_right fun hn => Bool.eq_false_iff.mpr fun e => hn (hb.mp e)
        rw [State.takeBoundary_start_flags ej h hb still]
        exact ⟨rfl, rfl, rfl⟩
  case header =>
    obtain ⟨-, -, start⟩ := s.takeBoundary_page ej
    obtain ⟨-, header, -⟩ := start h127
    have bits := State.takeBoundary_snapshotBits ej h127
    have shown {β : Type} (g : Mode × Option Nat × Bool × Bool × GainSet × Option RefId → β) :
        g (s.atPage ej).stationShown ∈ [g s.stationShown, g (s.takeBoundary ej).stationShown] :=
      mem_pair_of_or ((s.atPage_shown ej).imp (congrArg g) (congrArg g))
    have straps : (s.takeBoundary ej).straps = s.straps := (s.takeBoundary_lasts ej).straps
    have shared : (s.atPage ej).sharedInUse = s.sharedInUse ∨
        (s.atPage ej).sharedInUse = (s.takeBoundary ej).sharedInUse :=
      (s.atPage_cells ej).imp (fun h => State.sharedInUse_congr (s.atPage_straps ej) h.1)
        fun h => State.sharedInUse_congr ((s.atPage_straps ej).trans straps.symm) h.1
    have steady := s.takeBoundary_steady ej
    simp only [State.steadyShown, Ftu.clock, Prod.mk.injEq] at steady
    obtain ⟨integral, history, lastError, holdAge, ⟨index, -, seconds⟩, buildOut, bestGrade, leadSpread⟩ := steady
    have seq : (s.atPage ej).advancePage.maint.pageSeq = s.maint.pageSeq + 1 := by
      rw [← s.atPage_maint ej] at h127 ⊢
      exact if_pos ((pageCounter_wraps _).mpr h127)
    refine ⟨s.takeBoundary ej, exec_officeBoundary hr ej, _, shown (·.1), _, shown (·.2.1), _, shown (·.2.2.1),
      _, shown (·.2.2.2.1), _, mem_pair_of_or (s.atPage_width ej), _, shown (·.2.2.2.2.1), _, shown (·.2.2.2.2.2),
      _, mem_pair_of_or ((s.atPage_bothMonitors ej).imp And.left And.left),
      _, mem_pair_of_or ((s.atPage_bothMonitors ej).imp And.right And.right),
      _, mem_pair_of_or ((s.atPage_cells ej).imp And.right And.right), _, mem_pair_of_or shared, ?_⟩
    intro monitor f
    have counters := (s.takeBoundary_lasts ej).counters
    rw [header, integral, history, lastError, holdAge, index, seconds, buildOut, bestGrade, leadSpread, counters,
      ← s.atPage_counters ej, ← s.atPage_straps ej, ← seq]
    change _ = _ ++ octets16 f.snapshotBits ++ _
    rw [show f.snapshotBits = _ from bits]
    rfl
  case octets =>
    have h127 : s.maint.pageCounter ≠ 127 := fun h => by
      rw [h] at hp
      exact absurd (hp ▸ h1) (by decide)
    obtain ⟨w, loads, maint, straps, counters, trib⟩ := State.takeBoundary_loads ej h127
    refine ⟨s.takeBoundary ej, exec_officeBoundary hr ej, _, trib t, ?_⟩
    intro y sends held slip detail
    have send {l : List Octet} (h : w.loadOctets.maint.sent = l) : sends l := by
      rw [← loads] at h
      exact h
    have hn : 2 * w.maint.pageCounter.toNat = 2 * p := by rw [hp, maint]
    have header : w.maint.header = s.maint.header := by rw [maint]
    have carry : w.maint.carry = s.maint.carry := by rw [maint]
    have seq : w.maint.pageSeq = s.maint.pageSeq := by rw [maint]
    refine ⟨fun h => ?first, fun h16 h111 => ?summary, ?detail⟩
    case first => exact send (header ▸ State.sent_header hn (by omega))
    case summary =>
      obtain ⟨status, summary⟩ := State.sent_summary hn h16 h111 (hsum h111)
      refine ⟨fun k => send ((status k).trans ?_), ?_⟩
      · rw [State.statusOctet, State.enabled, State.classOf, straps]
        rfl
      · obtain ⟨marks, repeats, deletes, squeezes, frames⟩ := summary
        exact ⟨fun k => send (marks k), fun k => send (repeats k), fun k => send (deletes k),
          fun k => send (squeezes k), fun k => send (frames k)⟩
    case detail =>
      obtain ⟨first, last, carried, whole, deleted, losses, dark, caused, holdings, run, station⟩ :=
        State.sent_detail hn (t := t) (seq ▸ hdet)
      rw [carry] at carried whole deleted losses dark caused holdings
      rw [State.stationCounterOctet_eq, seq, counters] at station
      have slipEq (m : Option SlipMark) : slipOctets m = slip m := by cases m <;> rfl
      have detailEq : detailOctets y.detail = detail := by
        change _ = (match y.detail with | none => _ | some d => _)
        cases y.detail <;> rfl
      exact ⟨fun e => send ((first e).trans (congrArg _ (slipEq _))), fun e => send ((last e).trans (slipEq _)),
        fun e => send (carried e), fun e => send ((whole e).trans (congrArg _ detailEq)),
        fun e => send (deleted e), fun e => send (losses e), fun e => send (dark e), fun e => send (caused e),
        fun e => send (holdings e), fun e => send (run e), fun e => send (station e)⟩

end Sys2Proof.Machine
end

section
/-! PROOFS. The reports on a tributary's record (chapter 04): whatever a command but the assertion of RSTn does to a
record is a chain of nine reports, so what each report keeps is kept by every command. The two statements of the
chapter that hold along every step follow: the watermarks in order (R75, R76) and the first slip (R69). -/

namespace Sys2Proof.Machine

/-! The nine reports -/

/-- One report changes a record; a watermark offer is of a queue length up to `n` (R67, R72, R73, R75). -/
inductive Record.Report (n : Nat) (r : Record) : Record → Prop
  | repeatStart (stamp : Stamp) (shared : Nat) : Report n r (r.repeatStart stamp shared)
  | repeatContinue (run : Nat) : Report n r (r.repeatContinue run)
  | repeatClose : Report n r r.repeatClose
  | deleteSlip (stamp : Stamp) (frames depth shared : Nat) : Report n r (r.deleteSlip stamp frames depth shared)
  | squeeze (kind : SlipKind) (stamp : Stamp) (before : Nat) : Report n r (r.squeeze kind stamp before)
  | evictionCaused : Report n r r.evictionCaused
  | alignLoss : Report n r r.alignLoss
  | darkEntry : Report n r r.darkEntry
  | offer (frame : Nat) {len : Nat} (h : len ≤ n) : Report n r (r.offer frame len)

/-- A chain of reports leads from one record to the other. -/
abbrev Record.Reported (n : Nat) : Record → Record → Prop := Relation.ReflTransGen (Record.Report n)

/-- An offer of up to 8 frames keeps the watermarks in order, at the start of a second and within it (R75, R76). -/
theorem Record.MarksOrdered.offer {r : Record} (h : r.MarksOrdered) (frame : Nat) {len : Nat} (hl : len ≤ 8) :
    (r.offer frame len).MarksOrdered := by
  obtain ⟨running, reported, runTop, top⟩ := h
  unfold Record.offer
  split
  · exact ⟨le_rfl, running, hl, runTop⟩
  · exact ⟨(min_le_left ..).trans (running.trans (le_max_left ..)), reported, max_le runTop hl, top⟩

/-- The offer alone writes the watermarks. -/
theorem Record.MarksOrdered.report {n : Nat} {r q : Record} (h : r.MarksOrdered) (hn : n ≤ 8)
    (report : r.Report n q) : q.MarksOrdered := by
  cases report with
  | offer frame hl => exact h.offer frame (hl.trans hn)
  | _ => exact h

theorem Record.MarksOrdered.reported {n : Nat} {r q : Record} (h : r.MarksOrdered) (hn : n ≤ 8)
    (chain : Record.Reported n r q) : q.MarksOrdered := by
  induction chain with
  | refl => exact h
  | tail _ report ih => exact ih.report hn report

/-- A slip report writes the first-slip field where it is absent only (R69). -/
theorem Record.slip_firstSlip {r : Record} {m : SlipMark} (h : r.firstSlip = some m) (kind : SlipKind) (stamp : Stamp)
    (frames before shared : Nat) : (r.slip kind stamp frames before shared).firstSlip = some m := by
  simp [Record.slip, h]

theorem Record.offer_firstSlip (r : Record) (frame len : Nat) : (r.offer frame len).firstSlip = r.firstSlip := by
  unfold Record.offer
  split <;> rfl

/-- The reports of a slip go through the slip report, and no other report writes the first-slip field (R69). -/
theorem Record.Report.firstSlip {n : Nat} {r q : Record} {m : SlipMark} (report : r.Report n q)
    (h : r.firstSlip = some m) : q.firstSlip = some m := by
  cases report with
  | repeatStart stamp shared => exact Record.slip_firstSlip h .repeated stamp 1 0 shared
  | deleteSlip stamp frames depth shared => exact Record.slip_firstSlip h .delete stamp frames depth shared
  | squeeze kind stamp before => exact Record.slip_firstSlip h kind stamp 1 before 0
  | offer => rwa [Record.offer_firstSlip]
  | repeatContinue | repeatClose | evictionCaused | alignLoss | darkEntry => exact h

theorem Record.Reported.firstSlip {n : Nat} {r q : Record} {m : SlipMark} (chain : Record.Reported n r q)
    (h : r.firstSlip = some m) : q.firstSlip = some m := by
  induction chain with
  | refl => exact h
  | tail _ report ih => exact report.firstSlip ih

/-! Reports on every tributary -/

/-- Every tributary's record gets from one state to the other by reports, the offers to tributary v being of up to
`n v` frames. -/
def State.Reports (n : TribId → Nat) (s u : State) : Prop :=
  ∀ v, Record.Reported (n v) (s.trib v).record (u.trib v).record

section
variable {n : TribId → Nat} {s u w : State}

theorem State.Reports.of_records (h : ∀ v, (u.trib v).record = (s.trib v).record) : s.Reports n u :=
  fun v => by rw [h v]

theorem State.Reports.of_tribs (h : u.tribs = s.tribs) : s.Reports n u :=
  .of_records fun v => by rw [State.trib, h]; rfl

theorem State.Reports.refl (s : State) : s.Reports n s := .of_records fun _ => rfl

theorem State.Reports.trans (h : s.Reports n u) (g : u.Reports n w) : s.Reports n w := fun v => (h v).trans (g v)

end

/-! The operations on one tributary -/

section
variable {n : TribId → Nat} (s : State) (t : TribId)

theorem State.modRecord_reports {f : Record → Record} (h : ∀ r, Record.Report (n t) r (f r)) :
    s.Reports n (s.modRecord t f) := fun v => by
  rw [State.trib_modRecord]
  split
  · rename_i e
    subst e
    exact .single (h _)
  · exact .refl

theorem State.modRx_reports (f : Receiver → Receiver) : s.Reports n (s.modRx t f) :=
  .of_records fun v => by rw [State.trib_modRx]; split <;> rfl

theorem State.modStore_reports (f : Store → Store) : s.Reports n (s.modStore t f) :=
  .of_records fun v => by rw [State.trib_modStore]; split <;> rfl

/-- A change of a store that its record is told of. -/
theorem State.reportedStore_reports (g : Store → Store) {f : Record → Record} (h : ∀ r, Record.Report (n t) r (f r)) :
    s.Reports n ((s.modStore t g).modRecord t f) :=
  (s.modStore_reports t g).trans (State.modRecord_reports _ t h)

theorem State.setStoreState_reports (x : StoreState) (k : Nat) : s.Reports n (s.setStoreState t x k) :=
  .of_records fun v => by rw [State.trib_setStoreState]; split <;> rfl

theorem State.setFree_reports (k : Nat) : s.Reports n (s.setFree k) := .of_tribs rfl

theorem State.raise_reports (f : FlagId) : s.Reports n (s.raise f) := .of_tribs rfl

theorem State.releaseFilling_reports : s.Reports n (s.releaseFilling t) := by
  unfold State.releaseFilling
  split
  · exact .refl s
  · exact (s.modStore_reports t _).trans (State.setFree_reports _ _)

/-- A grant reports nothing; an eviction reports on victim and requester, an own drop on the requester (R42). -/
theorem State.cellRequest_reports : s.Reports n (s.cellRequest t) := by
  rcases s.cellRequest_cases t with ⟨-, e⟩ | ⟨-, -, ⟨v, -, e⟩ | ⟨-, e⟩⟩ <;> rw [e]
  · exact (s.modStore_reports t _).trans (State.setFree_reports _ _)
  · exact ((s.reportedStore_reports v _ fun _ => .squeeze ..).trans
      (State.reportedStore_reports _ t _ fun _ => .evictionCaused)).trans (State.raise_reports _ .squeeze)
  · exact (s.reportedStore_reports t _ fun _ => .squeeze ..).trans (State.raise_reports _ .squeeze)

theorem State.overflowCheck_reports : s.Reports n (s.overflowCheck t) := by
  unfold State.overflowCheck
  split
  · exact ((s.reportedStore_reports t _ fun _ => .deleteSlip ..).trans (State.setFree_reports _ _)).trans
      (State.raise_reports _ .slip)
  · exact .refl s

theorem State.appendFilled_reports (m : Bool) : s.Reports n (s.appendFilled t m) := by
  unfold State.appendFilled
  split
  · exact .refl s
  · exact s.modStore_reports t _

theorem State.completeFrame_reports (m : Bool) : s.Reports n (s.completeFrame t m) :=
  ((s.overflowCheck_reports t).trans (State.appendFilled_reports _ t m)).trans (State.cellRequest_reports _ t)

/-- A loss of ALIGNED and a dark entry: the receiver's change, the release of its filling cell and one report (R5,
R14). -/
theorem State.discard_reports (f : Receiver → Receiver) {g : Record → Record} (fl : FlagId)
    (h : ∀ r, Record.Report (n t) r (g r)) :
    s.Reports n ((((s.modRx t f).releaseFilling t).modRecord t g).raise fl) :=
  (((s.modRx_reports t f).trans (State.releaseFilling_reports _ t)).trans (State.modRecord_reports _ t h)).trans
    (State.raise_reports _ fl)

theorem State.primeStore_reports : s.Reports n (s.primeStore t) := by
  unfold State.primeStore
  split
  · exact s.setStoreState_reports t _ _
  · exact .refl s

theorem State.takeVerifyCheck_reports (b : Bool) : s.Reports n (s.takeVerifyCheck t b) := by
  unfold State.takeVerifyCheck
  dsimp only
  split
  · split
    · exact s.modRx_reports t _
    · exact ((s.modRx_reports t _).trans (State.cellRequest_reports _ t)).trans (State.primeStore_reports _ t)
  · exact s.modRx_reports t _

theorem State.takeSyncCheck_reports (b : Bool) : s.Reports n (s.takeSyncCheck t b) := by
  unfold State.takeSyncCheck
  dsimp only
  split
  · exact (s.modRx_reports t _).trans (State.discard_reports _ t _ _ fun _ => .alignLoss)
  · exact s.modRx_reports t _

theorem State.takePayloadBit_reports (b : Bool) : s.Reports n (s.takePayloadBit t b) :=
  (s.modStore_reports t _).trans (State.modRx_reports _ t _)

/-- An edge of a line clock, whatever its occasion. -/
theorem State.lineEdge_reports (b : Bool) : s.Reports n (s.lineEdge t b) := by
  unfold State.lineEdge
  cases s.edgeKind t b with
  | ignored => exact .refl s
  | leaveDark => exact s.modRx_reports t fun x => x.leaveDark b
  | search => exact s.modRx_reports t fun x => x.searchBit b
  | candidate => exact s.modRx_reports t fun x => x.candidate b
  | verify => exact s.modRx_reports t fun x => x.verifyBit b
  | verifyCheck => exact s.takeVerifyCheck_reports t b
  | sync => exact s.modRx_reports t fun x => x.syncBit b
  | syncCheck => exact s.takeSyncCheck_reports t b
  | payload => exact s.takePayloadBit_reports t b
  | completion => exact (s.takePayloadBit_reports t b).trans (State.completeFrame_reports _ t _)

end

/-! Readout at a boundary and at the release -/

section
variable {n : TribId → Nat}

/-- A decision of readout never lengthens a queue (R26, R48 to R52). -/
theorem Trib.afterAction_queue_le (x : Trib) (index : BitVec 3) (stamp : Stamp) (shared : Nat) (a : ReadoutAction) :
    (x.afterAction index stamp shared a).store.queue.length ≤ x.store.queue.length := by
  cases a with
  | dequeue => cases hq : x.store.queue <;> simp [Trib.afterAction, hq]
  | stayFill | goIdle | startRepeat | continueRepeat => exact le_rfl

theorem Trib.closedRecord_reported (k : Nat) (x : Trib) : Record.Reported k x.record x.closedRecord := by
  unfold Trib.closedRecord
  split
  · exact .single .repeatClose
  · exact .refl

/-- Each decision makes at most one report (R50 to R52). -/
theorem Trib.afterAction_reported (k : Nat) (x : Trib) (index : BitVec 3) (stamp : Stamp) (shared : Nat)
    (a : ReadoutAction) : Record.Reported k x.record (x.afterAction index stamp shared a).record := by
  cases a with
  | stayFill => exact .refl
  | dequeue => rw [Trib.afterAction_closedRecord (.inl rfl)]; exact x.closedRecord_reported k
  | goIdle => exact x.closedRecord_reported k
  | startRepeat => exact .single (.repeatStart ..)
  | continueRepeat => exact .single (.repeatContinue _)

/-- Readout reports its decision and offers a queue no longer than the one it found (R55). -/
theorem Trib.atBoundary_reported {k : Nat} {x : Trib} (hq : x.store.queue.length ≤ k) (e : Bool) (centre : Nat)
    (index : BitVec 3) (stamp : Stamp) (shared : Nat) :
    Record.Reported k x.record (x.atBoundary e centre index stamp shared).record := by
  cases e with
  | false => exact .refl
  | true =>
    exact (x.afterAction_reported k index stamp shared _).tail
      (.offer stamp.frame ((x.afterAction_queue_le index stamp shared _).trans hq))

variable {s : State} (hq : ∀ v, (s.trib v).store.queue.length ≤ n v)
include hq

theorem State.takeBoundary_reports (ej : Bool) : s.Reports n (s.takeBoundary ej) := fun v => by
  rw [State.takeBoundary_trib]
  exact Trib.atBoundary_reported (hq v) ..

theorem State.takeRelease_reports (p : Straps) (ej : Bool) : s.Reports n (s.takeRelease p ej) := fun v => by
  rw [State.takeRelease_trib]
  exact Trib.atBoundary_reported (hq v) ..

end

/-! The commands of the other blocks leave every tributary -/

theorem State.takeClose_tribs (s : State) : s.takeClose.tribs = s.tribs := by
  simp [State.takeClose]

theorem State.takeGradeStart_tribs (s : State) : s.takeGradeStart.tribs = s.tribs := by
  unfold State.takeGradeStart
  split
  · rfl
  split
  · rfl
  · unfold State.pullGrade
    split <;> rfl

theorem State.takeEjRise_tribs (s : State) : s.takeEjRise.tribs = s.tribs := by
  unfold State.takeEjRise
  dsimp only
  split <;> rfl

theorem State.takeCapture_tribs (s : State) (line : RailLine) (ch : LineChange) (k : Nat) :
    (s.takeCapture line ch k).tribs = s.tribs := by
  unfold State.takeCapture
  split <;> rfl

/-! Every command and every tick -/

section
variable {n : TribId → Nat} {s u : State}

/-- A command that has its occasion under a condition only. -/
theorem State.Reports.ite {p : Prop} [Decidable p] (h : s.Reports n u) : s.Reports n (if p then u else s) := by
  split
  · exact h
  · exact .refl s

theorem State.Reports.whenRunning {f : State → State} (h : s.Reports n (f s)) : s.Reports n (whenRunning f s) := h.ite

/-- A command whose work at a station out of reset leaves every tributary. -/
theorem State.whenRunning_reports {f : State → State} (h : (f s).tribs = s.tribs) : s.Reports n (whenRunning f s) :=
  (State.Reports.of_tribs h).whenRunning

/-- Every command but the assertion of RSTn changes the records by reports only. -/
theorem State.exec_reports (hq : ∀ v, (s.trib v).store.queue.length ≤ n v) {c : Instr} (hc : c ≠ .resetAssertion)
    (h : exec c s = .next u) : s.Reports n u := by
  cases c with
  | resetAssertion => exact absurd rfl hc
  | resetRelease p ej =>
    cases h
    split
    · exact .refl s
    · exact State.takeRelease_reports hq p ej
  | leaveDark t b => rw [exec_leaveDark_eq] at h; cases h; exact s.lineEdge_reports t b
  | darkEntry t => cases h; exact (s.discard_reports t _ _ fun _ => .darkEntry).ite
  | candidate t b => rw [exec_candidate_eq] at h; cases h; exact s.lineEdge_reports t b
  | verifyCheck t b => rw [exec_verifyCheck_eq] at h; cases h; exact s.lineEdge_reports t b
  | syncOctetCheck t b => rw [exec_syncOctetCheck_eq] at h; cases h; exact s.lineEdge_reports t b
  | frameCompletion t b => rw [exec_frameCompletion_eq] at h; cases h; exact s.lineEdge_reports t b
  | officeBoundary ej => cases h; exact (State.takeBoundary_reports hq ej).whenRunning
  | measurementClose => cases h; exact State.whenRunning_reports s.takeClose_tribs
  | acceptedEdge r k => cases h; exact (State.Reports.of_tribs (s.takeAcceptedEdge_tribs r k)).ite
  | missingEdge r => cases h; exact (State.Reports.of_tribs (s.takeMissingEdge_tribs r)).ite
  | gradeStart => cases h; exact State.whenRunning_reports s.takeGradeStart_tribs
  | pulseEnd line => cases h; exact State.whenRunning_reports rfl
  | ejRisingEdge => cases h; exact State.whenRunning_reports s.takeEjRise_tribs
  | acknowledgement => cases h; exact State.whenRunning_reports rfl
  | lineClockEdge t b => cases h; exact s.lineEdge_reports t b
  | railLineCapture line ch k => cases h; exact State.whenRunning_reports (s.takeCapture_tribs line ch k)
  | officeBit k half => cases h; exact State.whenRunning_reports (s.driveOutputs_tribs _)

end

theorem State.tickRunning_record (s : State) (i : TickInput) (v : TribId) :
    ((s.tickRunning i).trib v).record = (s.trib v).record := by
  rw [State.tickRunning_state]
  change ((s.advance i.pins).trib v).record = _
  rw [State.advance_trib]
  split <;> rfl

/-- A tick writes no record. -/
theorem State.idle_record (s : State) (v : TribId) : (s.idle.trib v).record = (s.trib v).record := by
  unfold State.idle
  split
  · dsimp only
    rw [State.readRail_state]
    rfl
  · unfold State.takeTick
    dsimp only
    split
    · split
      · exact State.tickRunning_record _ s.nextInput v
      · rfl
    · rfl

/-! The two statements -/

theorem DepthLimit.value_le (d : DepthLimit) : d.value ≤ 8 := by cases d <;> decide

/-- The pool law keeps every queue within 8 frames (R20, R25). -/
theorem State.PoolLaw.queue_le {s : State} (L : s.PoolLaw) (v : TribId) : (s.trib v).store.queue.length ≤ 8 :=
  (L.tribs v).queue.trans (DepthLimit.value_le _)

/-- The assertion of RSTn resets the records; every other command reports on them, with offers of up to 8 frames. -/
theorem State.exec_marksOrdered {s u : State} (L : s.PoolLaw) (hs : ∀ t, (s.trib t).record.MarksOrdered) {c : Instr}
    (h : exec c s = .next u) (t : TribId) : (u.trib t).record.MarksOrdered := by
  by_cases hc : c = .resetAssertion
  · subst hc
    cases h
    obtain ⟨-, marks, -⟩ := lawsAtReset
    exact marks t
  · exact (hs t).reported le_rfl (State.exec_reports (n := fun _ => 8) L.queue_le hc h t)

/-- Settles O22: a tick writes no record, and every command keeps the watermarks in order. -/
theorem marksOrderedKept : Obligations.MarksOrderedKept := by
  intro s u L hs h t
  unfold step at h
  split at h
  next => cases h; rw [State.idle_record]; exact hs t
  next c rest _ =>
    have L1 : ({ s with pending := rest } : State).PoolLaw := L.congr (.of_tribs rfl rfl rfl rfl)
    exact State.exec_marksOrdered L1 hs h t

/-- Settles O23: every command but the assertion changes a record by reports, and no report writes a first slip that
is present. -/
theorem firstSlipKept : Obligations.FirstSlipKept := by
  intro c s u t m hc hm h
  exact (State.exec_reports (fun _ => le_rfl) hc h t).firstSlip hm

end Sys2Proof.Machine
end

section
/-! PROOFS. The frame timing unit at a measurement close (chapter 05): what a close writes, said once as an equation,
and from it the computation of I and F, the runs of the gain sets, the holdover history and the RANGE run. -/

namespace Sys2Proof.Machine

/-! The clamp -/

theorem clampTo_eq {n : Int} (hn : 0 ≤ n) (x : Int) : clampTo n x = max (-n) (min n x) := by
  unfold clampTo
  (repeat' split) <;> omega

theorem clampTo_within {n : Int} (hn : 0 ≤ n) (x : Int) : Within n (clampTo n x) := by
  rw [clampTo_eq hn]
  constructor <;> omega

theorem Within.mono {m n x : Int} (h : Within m x) (hmn : m ≤ n) : Within n x :=
  ⟨(neg_le_neg hmn).trans h.1, h.2.trans hmn⟩

/-- The phase error as a close takes it (R82). -/
theorem clampTo_maxError (x : Int) : clampTo Config.maxError x = max (-512) (min 512 x) := clampTo_eq (by decide) x

/-! A close, field by field -/

/-- What a measured close writes (R84, R87, R89, R96). -/
theorem Ftu.closeMeasured_eq (f : Ftu) (m : Mode) (e : Int) : f.closeMeasured m e = { f with
    integral := f.nextIntegral e
    frequency := clampTo Config.maxFrequency (f.rawFrequency e)
    history := f.nextHistory m (f.nextIntegral e)
    lastError := some e
    rangeRun := nextRangeRun (f.clamps e) f.rangeRun
    gain := (f.countGain e).gain
    settleRun := (f.countGain e).settleRun
    excursionRun := (f.countGain e).excursionRun } := by
  unfold Ftu.closeMeasured Ftu.countGain
  dsimp only
  (repeat' split) <;> rfl

/-- A measured close takes the phase error clamped (R82). -/
theorem Ftu.close_some (f : Ftu) (m : Mode) {x e : Int} (he : e = max (-512) (min 512 x)) :
    f.close m (some x) = f.closeMeasured m e := by
  rw [he, ← clampTo_maxError]
  rfl

theorem Ftu.closeRaisesRange_some (f : Ftu) {x e : Int} (he : e = max (-512) (min 512 x)) :
    f.closeRaisesRange (some x) = raisesRange (f.clamps e) f.rangeRun := by
  rw [he, ← clampTo_maxError]
  rfl

/-- Settles O26: the two cases of I, and the clamp of F. -/
theorem closeComputation : Obligations.CloseComputation := by
  intro f m
  refine ⟨⟨rfl, rfl, rfl⟩, fun x e p di i' s0 i he hp hdi hi' hs0 hi => ?_⟩
  replace hp : p = f.gain.factor := by rw [hp]; cases f.gain <;> rfl
  replace hdi : di = f.gain.increment e := by rw [hdi]; cases f.gain <;> rfl
  have integral : f.nextIntegral e = i := by
    rw [hi, hs0, hi', hp, hdi]
    exact if_congr Iff.rfl (clampTo_eq (by decide) _) rfl
  have frequency : clampTo Config.maxFrequency (f.rawFrequency e) = max (-65535) (min 65535 (i + p * e)) := by
    rw [Ftu.rawFrequency, integral, hp]
    exact clampTo_eq (by decide) _
  rw [f.close_some m he, Ftu.closeMeasured_eq]
  exact ⟨integral, frequency, rfl⟩

/-! The runs of the gain sets (R87) -/

section
variable {f : Ftu} {e : Int}

/-- In ACQUIRE the settle run counts errors of up to 8 counts, the 64th in a row changes to TRACK. -/
theorem Ftu.countGain_acquire (hg : f.gain = .acquire) : f.countGain e =
    if e.natAbs ≤ 8 then if f.settleRun + 1 = 64 then f.setGain .track else { f with settleRun := f.settleRun + 1 }
    else { f with settleRun := 0 } := by
  unfold Ftu.countGain
  rw [hg]

/-- In TRACK the excursion run counts errors above 256 counts, the 16th in a row changes to ACQUIRE. -/
theorem Ftu.countGain_track (hg : f.gain = .track) : f.countGain e =
    if 256 < e.natAbs then
      if f.excursionRun + 1 = 16 then f.setGain .acquire else { f with excursionRun := f.excursionRun + 1 }
    else { f with excursionRun := 0 } := by
  unfold Ftu.countGain
  rw [hg]

end

/-- Settles O27, by the gain set in force and the size of the error. -/
theorem gainRuns : Obligations.GainRuns := by
  intro f m x e he
  rw [f.close_some m he, Ftu.closeMeasured_eq]
  dsimp only
  refine ⟨⟨rfl, rfl, rfl⟩, fun hg => ?acquire, fun hg => ?track⟩
  case acquire =>
    rw [Ftu.countGain_acquire hg]
    refine ⟨fun hs hr => ?_, fun hs hr => ?_, fun hs => ?_⟩
    · rw [if_pos hs, if_neg (by omega)]; exact ⟨hg, rfl⟩
    · rw [if_pos hs, if_pos (by omega)]; exact ⟨rfl, rfl, rfl⟩
    · rw [if_neg (by omega)]; exact ⟨hg, rfl⟩
  case track =>
    rw [Ftu.countGain_track hg]
    refine ⟨fun hs hr => ?_, fun hs hr => ?_, fun hs => ?_⟩
    · rw [if_pos hs, if_neg (by omega)]; exact ⟨hg, rfl⟩
    · rw [if_pos hs, if_pos (by omega)]; exact ⟨rfl, rfl, rfl⟩
    · rw [if_neg (by omega)]; exact ⟨hg, rfl⟩

/-! The holdover history (R89, R90) -/

/-- One update stays between H and 256 × I. -/
theorem historyStep_between (h i : Int) :
    (h ≤ 256 * i → h ≤ historyStep h i ∧ historyStep h i ≤ 256 * i) ∧
      (256 * i ≤ h → 256 * i ≤ historyStep h i ∧ historyStep h i ≤ h) := by
  unfold historyStep
  omega

theorem historyStep_within {h i : Int} (hh : Within Config.maxHistory h) (hi : Within Config.maxIntegral i) :
    Within Config.maxHistory (historyStep h i) := by
  obtain ⟨up, down⟩ := historyStep_between h i
  simp only [Within, Config.maxHistory, Config.maxIntegral] at hh hi ⊢
  omega

/-- Settles O28: the updates by mode and gain set, then the size of one update. -/
theorem history : Obligations.History := by
  refine ⟨fun f m x => ?updates, fun h i d u hd hu => ?size⟩
  case updates =>
    rw [f.close_some m rfl, Ftu.closeMeasured_eq]
    refine ⟨fun hm hg => if_pos ⟨hm, hg⟩, fun hn => if_neg fun ⟨hm, hg⟩ => ?_, rfl⟩
    rcases hn with hn | hn
    · exact hn hm
    · rw [hn] at hg; cases hg
  case size =>
    subst hd hu
    obtain ⟨up, down⟩ := historyStep_between h i
    exact ⟨by omega, by omega, by omega,
      fun i1 i2 h1 h2 => historyStep_within (h := h) ⟨h1, h2⟩ ⟨i1, i2⟩⟩

/-! The RANGE run (R96) -/

theorem Ftu.clamps_iff (f : Ftu) (e : Int) :
    f.clamps e = true ↔ ¬ (-65535 ≤ f.rawFrequency e ∧ f.rawFrequency e ≤ 65535) := by
  rw [Ftu.clamps, Bool.or_eq_true, decide_eq_true_eq, decide_eq_true_eq, Config.maxFrequency]
  omega

/-- Settles O29, by whether the computation of F clamps. -/
theorem rangeRun : Obligations.RangeRun := by
  intro f m x e p he hp
  replace hp : p = f.gain.factor := by rw [hp]; cases f.gain <;> rfl
  rw [f.close_some m he, f.closeRaisesRange_some he, Ftu.closeMeasured_eq, hp]
  dsimp only
  refine ⟨rfl, rfl, fun hin => ?inside, fun hout => ?outside⟩
  case inside =>
    have hc : f.clamps e = false := Bool.eq_false_iff.mpr fun h => (f.clamps_iff e).mp h hin
    rw [hc]
    exact ⟨rfl, rfl⟩
  case outside =>
    have hc : f.clamps e = true := (f.clamps_iff e).mpr hout
    rw [hc]
    refine ⟨fun hr => ?_, fun hr => ?_⟩
    · have hn : f.rangeRun + 1 ≠ 8000 := by omega
      simp [nextRangeRun, raisesRange, hn]
    · simp [nextRangeRun, raisesRange, hr]

end Sys2Proof.Machine
end

section
/-! PROOFS. The ranges of the frame timing unit (R84, R85, R87, R90, R94, R95, R96): kept by each of its own
operations, by each block that writes to it, and so by every step. -/

namespace Sys2Proof.Machine

/-! The FTU's own operations -/

/-- The RANGE run never reaches 8000 (R96). -/
theorem nextRangeRun_lt {run : Nat} (h : run < 8000) (clamped : Bool) : nextRangeRun clamped run < 8000 := by
  unfold nextRangeRun
  (repeat' split) <;> omega

section
variable {f : Ftu} (h : f.Ranges)
include h

/-- The words and runs that a change of gain set, of mode or of the selection clears lie in their ranges. -/
theorem Ftu.Ranges.clearRuns (g : GainSet) : { f with gain := g, settleRun := 0, excursionRun := 0 : Ftu }.Ranges :=
  { h with settle := Nat.zero_lt_succ _, excursion := Nat.zero_lt_succ _ }

/-- F set to I (R82, R92). -/
theorem Ftu.Ranges.loadFrequency : { f with frequency := f.integral : Ftu }.Ranges :=
  { h with frequency := h.integral.mono (by decide) }

theorem Ftu.Ranges.enterHold : f.enterHold.Ranges := by
  have loaded : Within Config.maxIntegral (clampTo Config.maxIntegral ((f.history + 128) / 256)) :=
    clampTo_within (by decide) _
  exact { h with integral := loaded, frequency := loaded.mono (by decide), holdAge := Nat.zero_le _ }

theorem Ftu.nextIntegral_within (e : Int) : Within Config.maxIntegral (f.nextIntegral e) := by
  unfold Ftu.nextIntegral
  split
  · exact clampTo_within (by decide) _
  · exact h.integral

theorem Ftu.nextHistory_within (m : Mode) {i : Int} (hi : Within Config.maxIntegral i) :
    Within Config.maxHistory (f.nextHistory m i) := by
  unfold Ftu.nextHistory
  split
  · exact historyStep_within h.history hi
  · exact h.history

/-- The runs of the gain sets never reach 64 and 16 (R87). -/
theorem Ftu.countGain_within (e : Int) : (f.countGain e).settleRun < 64 ∧ (f.countGain e).excursionRun < 16 := by
  have hs := h.settle
  have hx := h.excursion
  unfold Ftu.countGain Ftu.setGain
  (repeat' split) <;> exact ⟨by dsimp only; omega, by dsimp only; omega⟩

theorem Ftu.Ranges.close (m : Mode) (offered : Option Int) : (f.close m offered).Ranges := by
  cases offered with
  | none => exact { h.loadFrequency with lastError := nofun, range := Nat.zero_lt_succ _ }
  | some x =>
    obtain ⟨settle, excursion⟩ := Ftu.countGain_within h (clampTo Config.maxError x)
    have integral := Ftu.nextIntegral_within h (clampTo Config.maxError x)
    rw [Ftu.close, Ftu.closeMeasured_eq]
    exact { h with
      integral := integral
      frequency := clampTo_within (by decide) _
      history := Ftu.nextHistory_within h m integral
      lastError := fun e he => Option.some.inj he ▸ clampTo_within (by decide) x
      settle := settle
      excursion := excursion
      range := nextRangeRun_lt h.range _ }

theorem Ftu.Ranges.fixLength : f.fixLength.Ranges := by
  unfold Ftu.fixLength
  split
  · exact { h with }
  · exact { h with fraction := by dsimp only; omega }

theorem Ftu.Ranges.advanceSecond (m : Mode) : (f.advanceSecond m).Ranges := by
  have hf := h.frame
  have ha := h.holdAge
  unfold Ftu.advanceSecond
  split
  · rename_i hn
    exact { h with frame := hn }
  · refine { h with frame := Nat.zero_lt_succ _, holdAge := ?_ }
    dsimp only
    split
    · rw [satSucc_eq_min]; exact min_le_left ..
    · exact ha

theorem Ftu.Ranges.boundary (m : Mode) : (f.boundary m).Ranges := by
  have started : f.restartTicks.Ranges := { h with }
  have indexed : f.restartTicks.fixLength.advanceIndex.Ranges := { started.fixLength with }
  exact indexed.advanceSecond m

end

/-! What a close does to the FTU besides its own work -/

/-- The marks leave nothing with the FTU but a relabel request (R149). -/
theorem State.marksAtClose_ftu (s : State) :
    s.marksAtClose.ftu = { s.ftu with indexRequest := s.marksAtClose.ftu.indexRequest } := by
  unfold State.marksAtClose State.noteMark State.closeMultiframe State.relabelStep State.relabelBy
  dsimp only
  (repeat' split) <;> rfl

/-- The LISTEN procedure leaves nothing with the FTU but its two requests (R159, R160). -/
theorem State.listenAtClose_ftu (s : State) (w : Option HeldWindow) : (s.listenAtClose w).ftu = { s.ftu with
    indexRequest := (s.listenAtClose w).ftu.indexRequest
    joinRequest := (s.listenAtClose w).ftu.joinRequest } := by
  unfold State.listenAtClose State.decideJoin
  (repeat' split) <;> rfl

/-- The close of the timing blocks, on the results that the close forms (R97, R129). -/
def State.timedClose (s : State) : State := s.formAtClose.closeModes (Config.holdTestBeforeClose s.choiceSeq)

/-- The state of a close before its grade and its next windows. -/
def State.closeDone (s : State) : State := s.timedClose.marksAtClose.listenAtClose s.rail.held

theorem State.takeClose_eq (s : State) :
    s.takeClose = { s.closeDone.regrade.renewWindows with choiceSeq := s.choiceSeq + 1 } := by
  simp only [State.takeClose, State.closeDone, State.timedClose]

/-- A close leaves the FTU as the timing blocks do, requests apart. -/
theorem State.takeClose_ftu (s : State) : s.takeClose.ftu = { s.timedClose.ftu with
    indexRequest := s.takeClose.ftu.indexRequest
    joinRequest := s.takeClose.ftu.joinRequest } := by
  have done : s.closeDone.ftu = { s.timedClose.ftu with
      indexRequest := s.closeDone.ftu.indexRequest
      joinRequest := s.closeDone.ftu.joinRequest } := by
    rw [State.closeDone, State.listenAtClose_ftu, State.marksAtClose_ftu]
  rw [State.takeClose_eq]
  generalize s.closeDone = x at done ⊢
  exact done

/-! The blocks that write to the FTU -/

section
variable {s : State} (h : s.ftu.Ranges)
include h

theorem State.changeMode_ranges (m : Mode) : (s.changeMode m).ftu.Ranges := h.clearRuns s.ftu.gain

theorem State.acquire_ranges : s.acquire.ftu.Ranges := h.clearRuns .acquire

theorem State.evaluateSelector_ranges : s.evaluateSelector.ftu.Ranges := by
  unfold State.evaluateSelector
  (repeat' split)
  · exact h
  · exact State.changeMode_ranges h .anchor
  · rwa [State.switchTo_ftu]
  · exact h

theorem State.loseSelected_ranges (r : RefId) : (s.loseSelected r).ftu.Ranges := by
  unfold State.loseSelected
  dsimp only
  split
  · exact h
  · exact h.enterHold.clearRuns s.ftu.gain

theorem State.loseReference_ranges (r : RefId) : (s.loseReference r).ftu.Ranges := by
  have told (u : State) (hu : u.ftu = s.ftu) : u.ftu.Ranges := hu ▸ h
  unfold State.loseReference
  dsimp only
  (repeat' split)
  · exact State.loseSelected_ranges (told _ (by simp)) r
  · exact State.loseSelected_ranges (told _ (by simp)) r
  · exact told _ (by simp)
  · exact told _ (by simp)

theorem State.impair_ranges (r : RefId) : (s.impair r).ftu.Ranges := by
  unfold State.impair
  dsimp only
  split
  · exact State.loseReference_ranges h r
  · rwa [State.setMonitor_ftu]

theorem State.judgeInterval_ranges (r : RefId) (i : Interval) : (s.judgeInterval r i).ftu.Ranges := by
  have set (m : Monitor) : (s.setMonitor r m).ftu.Ranges := by rwa [State.setMonitor_ftu]
  unfold State.judgeInterval State.noteQualified
  dsimp only
  (repeat' split)
  all_goals first
    | exact h
    | exact set _
    | exact State.impair_ranges h r
    | exact State.evaluateSelector_ranges (set _)

theorem State.takeAcceptedEdge_ranges (r : RefId) (n : Nat) : (s.takeAcceptedEdge r n).ftu.Ranges :=
  State.judgeInterval_ranges (by simpa using h) r _

theorem State.takeMissingEdge_ranges (r : RefId) : (s.takeMissingEdge r).ftu.Ranges := by
  have offered : ((s.setMonitor r (s.monitor r).miss).offerNothing r).ftu.Ranges := by simpa using h
  unfold State.takeMissingEdge
  dsimp only
  split
  · exact offered
  · exact offered
  · rwa [State.setMonitor_ftu]
  · exact State.impair_ranges offered r

theorem State.takeWithdrawal_ranges : s.takeWithdrawal.ftu.Ranges := by
  unfold State.takeWithdrawal
  dsimp only
  split
  · exact (h.clearRuns s.ftu.gain).loadFrequency
  · exact h

theorem State.takeJoin_ranges : s.takeJoin.ftu.Ranges := by
  unfold State.takeJoin
  dsimp only
  split
  · exact State.changeMode_ranges (State.acquire_ranges h) .anchor
  · exact State.changeMode_ranges (State.acquire_ranges h) .track

theorem State.passage_ranges (ej begins : Bool) : (s.passage ej begins).ftu.Ranges := by
  unfold State.passage
  (repeat' split)
  · exact State.takeWithdrawal_ranges h
  · exact State.takeJoin_ranges h
  all_goals exact h

theorem State.stationBoundary_ranges (ej begins early : Bool) :
    (s.stationBoundary ej begins early).ftu.Ranges := by
  unfold State.stationBoundary
  rw [State.railBoundary_ftu]
  cases early
  · exact State.passage_ranges h ej begins
  · exact h

theorem State.takeBoundary_ranges (ej : Bool) : (s.takeBoundary ej).ftu.Ranges :=
  State.takeBoundary_keeps (P := fun s => s.ftu.Ranges) ej h (fun _ h => h)
    (fun _ h => State.takeWithdrawal_ranges h) (fun s h => h.boundary s.modes.mode) (fun _ h => h)
    (fun _ ej begins early h => State.stationBoundary_ranges h ej begins early)
    (fun s h => by rwa [s.readoutBoundary_ftu]) (fun s h => by rwa [s.pageBoundary_ftu]) (fun _ _ h => h)

theorem State.countLeadAbsent_ranges : s.countLeadAbsent.ftu.Ranges := by
  unfold State.countLeadAbsent
  (repeat' split)
  · exact h
  · exact h.clearRuns .acquire
  all_goals exact h

theorem State.closeWork_ranges : s.closeWork.ftu.Ranges := by
  have counted := State.countLeadAbsent_ranges h
  unfold State.closeWork
  rw [State.countOffset_ftu]
  unfold State.ftuClose
  dsimp only
  split <;> exact counted.close _ _

theorem State.followBetter_ranges : s.followBetter.ftu.Ranges :=
  State.changeMode_ranges (State.acquire_ranges h) .track

theorem State.closeModes_ranges (testFirst : Bool) : (s.closeModes testFirst).ftu.Ranges := by
  unfold State.closeModes
  (repeat' split)
  · exact State.closeWork_ranges (State.followBetter_ranges h)
  · exact State.followBetter_ranges (State.closeWork_ranges h)
  · exact State.closeWork_ranges h

theorem State.takeClose_ranges : s.takeClose.ftu.Ranges := by
  have timed : s.timedClose.ftu.Ranges := State.closeModes_ranges (by rwa [s.formAtClose_ftu]) _
  rw [State.takeClose_ftu]
  exact { timed with }

theorem State.takeEjRise_ranges : s.takeEjRise.ftu.Ranges := by
  unfold State.takeEjRise
  dsimp only
  split
  · exact { h with }
  · exact h

theorem State.takeGradeStart_ranges : s.takeGradeStart.ftu.Ranges := by
  unfold State.takeGradeStart State.pullGrade
  (repeat' split) <;> exact h

theorem State.takeCapture_ranges (line : RailLine) (ch : LineChange) (k : Nat) :
    (s.takeCapture line ch k).ftu.Ranges := by
  unfold State.takeCapture
  split <;> exact h

theorem State.lineEdge_ranges (t : TribId) (b : Bool) : (s.lineEdge t b).ftu.Ranges := by
  have same : (s.lineEdge t b).ftu = s.ftu := by
    have beside : s.lineEdge t b = _ := (s.lineEdge_byTrib t b).beside
    rw [beside]
  rwa [same]

theorem State.takeRelease_ranges (p : Straps) (ej : Bool) : (s.takeRelease p ej).ftu.Ranges := by
  rw [(s.takeRelease_besidePage p ej).ftu]
  exact { h with }

theorem State.whenRunning_ranges {f : State → State} (hf : (f s).ftu.Ranges) : (whenRunning f s).ftu.Ranges := by
  unfold whenRunning
  split
  · exact hf
  · exact h

end

/-! Every command and every tick -/

/-- Every command keeps the ranges. -/
theorem State.exec_ranges {s u : State} (h : s.ftu.Ranges) (c : Instr) (hu : exec c s = .next u) : u.ftu.Ranges := by
  cases c with
  | resetAssertion =>
    cases hu
    obtain ⟨-, -, ranges, -⟩ := lawsAtReset
    exact { ranges with }
  | resetRelease p ej =>
    cases hu
    split
    · exact h
    · exact State.takeRelease_ranges h p ej
  | leaveDark t b => rw [exec_leaveDark_eq] at hu; cases hu; exact State.lineEdge_ranges h t b
  | darkEntry t =>
    cases hu
    split
    · have beside : s.takeDarkEntry t = _ := (s.discard_within t _ _ _).beside
      rw [beside]
      exact h
    · exact h
  | candidate t b => rw [exec_candidate_eq] at hu; cases hu; exact State.lineEdge_ranges h t b
  | verifyCheck t b => rw [exec_verifyCheck_eq] at hu; cases hu; exact State.lineEdge_ranges h t b
  | syncOctetCheck t b => rw [exec_syncOctetCheck_eq] at hu; cases hu; exact State.lineEdge_ranges h t b
  | frameCompletion t b => rw [exec_frameCompletion_eq] at hu; cases hu; exact State.lineEdge_ranges h t b
  | officeBoundary ej => cases hu; exact State.whenRunning_ranges h (State.takeBoundary_ranges h ej)
  | measurementClose => cases hu; exact State.whenRunning_ranges h (State.takeClose_ranges h)
  | acceptedEdge r n =>
    cases hu
    split
    · exact State.takeAcceptedEdge_ranges h r n
    · exact h
  | missingEdge r =>
    cases hu
    split
    · exact State.takeMissingEdge_ranges h r
    · exact h
  | gradeStart => cases hu; exact State.whenRunning_ranges h (State.takeGradeStart_ranges h)
  | pulseEnd line => cases hu; exact State.whenRunning_ranges h h
  | ejRisingEdge => cases hu; exact State.whenRunning_ranges h (State.takeEjRise_ranges h)
  | acknowledgement => cases hu; exact State.whenRunning_ranges h h
  | lineClockEdge t b => cases hu; exact State.lineEdge_ranges h t b
  | railLineCapture line ch n => cases hu; exact State.whenRunning_ranges h (State.takeCapture_ranges h line ch n)
  | officeBit k half => cases hu; exact State.whenRunning_ranges h h

/-- A tick advances the crystal and the tick count alone. -/
theorem State.idle_ranges {s : State} (h : s.ftu.Ranges) : s.idle.ftu.Ranges := by
  unfold State.idle
  split
  · dsimp only
    rw [State.readRail_state]
    exact h
  · unfold State.takeTick
    dsimp only
    (repeat' split)
    · have same := congrArg State.ftu (State.tickRunning_state { s with inputs := s.inputs.drop 1 } s.nextInput)
      rw [same]
      dsimp only
      rw [State.advance_ftu]
      exact { h with }
    all_goals exact { h with }

/-- Settles O31: a tick leaves words and runs, and every command keeps their ranges. -/
theorem ftuRangesKept : Obligations.FtuRangesKept := by
  intro s u h hu
  unfold step at hu
  split at hu
  next => cases hu; exact State.idle_ranges h
  next c rest _ => exact State.exec_ranges (s := { s with pending := rest }) h c hu

end Sys2Proof.Machine
end

section
/-! PROOFS. The office boundary (R80): what a withdrawal, a join and the rail's drive write, each said once; then the
clock of the frame that begins (R85, R86, R93 to R95), and the withdrawal, the join frame and the join (chapters 05 to
09) as a boundary leaves them. -/

namespace Sys2Proof.Machine

/-! What a withdrawal writes (R116, R130, R163) -/

section
variable (s : State)

theorem State.takeWithdrawal_modes : s.takeWithdrawal.modes =
    if s.joined then { mode := .listen, grade := none, offsetRun := 0 } else s.modes := by
  unfold State.takeWithdrawal
  cases s.joined <;> rfl

theorem State.takeWithdrawal_selector : s.takeWithdrawal.selector =
    if s.joined then { s.selector with selected := none, offered := none, buildPending := false }
    else s.selector := by
  unfold State.takeWithdrawal
  cases s.joined <;> rfl

theorem State.takeWithdrawal_rail : s.takeWithdrawal.rail =
    if s.joined then { s.rail.clearMarks with leadAbsentRun := 0, drivenGrade := none, drivingLead := false }
    else s.rail := by
  unfold State.takeWithdrawal
  cases s.joined <;> rfl

theorem State.takeWithdrawal_listen : s.takeWithdrawal.listen =
    { s.listen with withdrawn := true, withdrawRequest := false, phase := .running, offset := none } := by
  unfold State.takeWithdrawal
  cases s.joined <;> rfl

theorem State.takeWithdrawal_ftu : s.takeWithdrawal.ftu =
    if s.joined then { s.ftu with settleRun := 0, excursionRun := 0, frequency := s.ftu.integral } else s.ftu := by
  unfold State.takeWithdrawal
  cases s.joined <;> rfl

/-! What a join writes (R114, R125, R161) -/

theorem State.takeJoin_ftu : s.takeJoin.ftu = s.ftu.setGain .acquire := by
  unfold State.takeJoin
  dsimp only
  split <;> rfl

theorem State.takeJoin_listen : s.takeJoin.listen = s.listen.afresh := by
  unfold State.takeJoin
  dsimp only
  split <;> rfl

theorem State.takeJoin_rail : s.takeJoin.rail = { s.rail.clearMarks with leadAbsentRun := 0 } := by
  unfold State.takeJoin
  dsimp only
  split <;> rfl

theorem State.takeJoin_joined : s.takeJoin.joined = true := by
  unfold State.takeJoin
  dsimp only
  split <;> rfl

end

section
variable {s : State}

/-- With no QUALIFIED reference the station joins in TRACK. -/
theorem State.takeJoin_track (h : s.choice = none) :
    s.takeJoin.modes = { mode := .track, grade := some 1, offsetRun := 0 } ∧
      s.takeJoin.selector = s.selector := by
  have hc : s.acquire.choice = none := h
  simp only [State.takeJoin, hc]
  exact ⟨rfl, rfl⟩

/-- The grade of ANCHOR, by the class of the reference followed (R122). -/
def anchorGrade (cls : Option RefClass) : Nat := if cls = some .classA then 7 else 6

theorem gradeOf_anchor (g : GainSet) (cls : Option RefClass) (age : Nat) :
    gradeOf .anchor g cls age = some (anchorGrade cls) := by
  unfold gradeOf anchorGrade
  dsimp only
  split <;> rfl

/-- On the better QUALIFIED reference it joins in ANCHOR, with the build-out pending. -/
theorem State.takeJoin_anchor {r : RefId} (h : s.choice = some r) :
    s.takeJoin.modes = { mode := .anchor, grade := some (anchorGrade (s.straps.refClass r)), offsetRun := 0 } ∧
      s.takeJoin.selector = { s.selector with selected := some r, buildPending := true, offered := none } := by
  have hc : s.acquire.choice = some r := h
  simp only [State.takeJoin, hc]
  exact ⟨congrArg (ModeMachine.mk .anchor · 0) (gradeOf_anchor ..), rfl⟩

/-! The better QUALIFIED reference (R114) -/

theorem State.qualified_iff (r : RefId) : s.qualified r = true ↔ (s.monitor r).state = .qualified := by
  simp [State.qualified]

theorem Straps.betterRef_iff (p : Straps) (a b : RefId) :
    p.betterRef a b = true ↔ p.refClass a = some .classA ∧ p.refClass b = some .classB := by
  simp [Straps.betterRef]

theorem State.choice_none (ha : (s.monitor .refA).state ≠ .qualified) (hb : (s.monitor .refB).state ≠ .qualified) :
    s.choice = none := by
  rw [Ne, ← State.qualified_iff, Bool.not_eq_true] at ha hb
  rw [State.choice, ha, hb]

theorem State.choice_refA (ha : (s.monitor .refA).state = .qualified)
    (hb : (s.monitor .refB).state ≠ .qualified ∨
      ¬ (s.straps.refClass .refB = some .classA ∧ s.straps.refClass .refA = some .classB)) :
    s.choice = some .refA := by
  rw [← State.qualified_iff] at ha
  rw [Ne, ← State.qualified_iff, ← Straps.betterRef_iff] at hb
  rw [State.choice, ha]
  cases hq : s.qualified .refB
  · rfl
  · exact if_neg (hb.resolve_left (not_not_intro hq))

theorem State.choice_refB (hb : (s.monitor .refB).state = .qualified)
    (ha : (s.monitor .refA).state ≠ .qualified ∨
      (s.straps.refClass .refB = some .classA ∧ s.straps.refClass .refA = some .classB)) :
    s.choice = some .refB := by
  rw [← State.qualified_iff] at hb
  rw [Ne, ← State.qualified_iff, ← Straps.betterRef_iff] at ha
  rw [State.choice, hb]
  cases hq : s.qualified .refA
  · rfl
  · exact if_pos (ha.resolve_left (not_not_intro hq))

end

/-! What a joined station drives from a boundary (R124, R137, R138, R141) -/

theorem State.driveRail_rail (s : State) : s.driveRail.rail = { s.rail with
    drivenGrade := s.modes.grade
    drivingLead := s.drivesLead
    pulses := { s.rail.pulses with
      beat := some (s.ftu.crystal + beatTicks s.ftu.officeIndex s.drivesLead)
      lead := if s.drivesLead then some (s.ftu.crystal + 32) else s.rail.pulses.lead }
    caps := { s.rail.caps with
      beat := s.rail.caps.beat.ownFall
      lead := if s.drivesLead then s.rail.caps.lead.ownFall else s.rail.caps.lead } } := by
  unfold State.driveRail
  cases s.drivesLead <;> rfl

theorem State.railBoundary_joined {s : State} (h : s.joined = true) (begins : Bool) :
    s.railBoundary begins = ({ s with rail := { s.rail with listenWindow := false } } : State).driveRail := by
  rw [State.railBoundary, if_pos h]

theorem State.railBoundary_alone {s : State} (h : s.joined = false) (begins : Bool) :
    s.railBoundary begins = s.openListenWindow begins := by
  rw [State.railBoundary, h]
  rfl

/-! The FTU at a boundary -/

/-- What the FTU's own work at a boundary writes (R80, R85, R86, R93 to R95). -/
theorem Ftu.boundary_eq (f : Ftu) (m : Mode) : f.boundary m = { f with
    tick := 0
    frameStart := f.frameStart + f.length
    length := f.fixLength.length
    fraction := f.fixLength.fraction
    joinRequest := none
    officeIndex := f.nextIndex
    indexRequest := none
    frameInSecond := (f.advanceSecond m).frameInSecond
    seconds := (f.advanceSecond m).seconds
    holdAge := (f.advanceSecond m).holdAge } := by
  unfold Ftu.boundary Ftu.advanceSecond Ftu.fixLength
  cases hj : f.joinRequest
  all_goals
    simp only [Ftu.restartTicks, hj, Ftu.advanceIndex]
    split <;> rfl

/-- No block after the FTU writes more of it than the frequency word, the gain set and its runs. -/
theorem State.passage_ftu (s : State) (ej begins : Bool) : (s.passage ej begins).ftu = { s.ftu with
    frequency := (s.passage ej begins).ftu.frequency
    gain := (s.passage ej begins).ftu.gain
    settleRun := (s.passage ej begins).ftu.settleRun
    excursionRun := (s.passage ej begins).ftu.excursionRun } := by
  unfold State.passage
  (repeat' split)
  · rw [State.takeWithdrawal_ftu]
    split <;> rfl
  · rw [State.takeJoin_ftu]
    rfl
  all_goals rfl

/-- The state that the FTU's boundary work finds: a withdrawal may have been taken (R98). -/
def State.beforeFtu (s : State) : State :=
  applyWhen (s.listen.withdrawRequest && Config.withdrawBeforeFtu s.choiceSeq) State.takeWithdrawal
    s.closeListenWindow

theorem State.boundaryStart_eq (s : State) : s.boundaryStart = s.beforeFtu.ftuBoundary := rfl

/-- The FTU after a boundary is what its own work makes of what it found, the words and runs apart that a withdrawal
or a join writes. -/
theorem State.takeBoundary_ftu (s : State) (ej : Bool) : (s.takeBoundary ej).ftu =
    { s.beforeFtu.ftu.boundary s.beforeFtu.modes.mode with
      frequency := (s.takeBoundary ej).ftu.frequency
      gain := (s.takeBoundary ej).ftu.gain
      settleRun := (s.takeBoundary ej).ftu.settleRun
      excursionRun := (s.takeBoundary ej).ftu.excursionRun } := by
  have start : s.boundaryStart.ftu = s.beforeFtu.ftu.boundary s.beforeFtu.modes.mode := rfl
  rw [(s.takeBoundary_same ej).ftu, ← start, State.stationBoundary, State.railBoundary_ftu]
  split
  · rfl
  · exact State.passage_ftu ..

/-- What a withdrawal may have changed before the FTU's work: with it F is I, and the station in LISTEN. -/
theorem State.beforeFtu_cases (s : State) :
    s.beforeFtu = s.closeListenWindow ∨
      (s.listen.withdrawRequest = true ∧ s.beforeFtu = s.closeListenWindow.takeWithdrawal) := by
  unfold State.beforeFtu
  cases he : s.listen.withdrawRequest && Config.withdrawBeforeFtu s.choiceSeq
  · exact .inl rfl
  · exact .inr ⟨(Bool.and_eq_true_iff.mp he).1, rfl⟩

/-- The frequency word with which a boundary computes (R85, R98). -/
theorem State.beforeFtu_ftu (s : State) : ∃ f : Int,
    (f = s.ftu.frequency ∨
      (s.listen.withdrawRequest = true ∧ s.modes.mode ≠ .listen ∧ f = s.ftu.integral)) ∧
    s.beforeFtu.ftu = { s.ftu with
      frequency := f
      settleRun := s.beforeFtu.ftu.settleRun
      excursionRun := s.beforeFtu.ftu.excursionRun } := by
  rcases s.beforeFtu_cases with he | ⟨hw, he⟩
  · exact ⟨_, .inl rfl, by rw [he]; rfl⟩
  · rw [he, State.takeWithdrawal_ftu]
    cases hj : s.closeListenWindow.joined
    · exact ⟨_, .inl rfl, rfl⟩
    · have hm : s.modes.mode ≠ .listen := by simpa [State.joined] using hj
      exact ⟨_, .inr ⟨hw, hm, rfl⟩, rfl⟩

/-- The mode by which a boundary counts the hold age (R95; notes/assumptions/29.md). -/
theorem State.beforeFtu_mode (s : State) :
    s.beforeFtu.modes.mode = s.modes.mode ∨
      (s.listen.withdrawRequest = true ∧ s.beforeFtu.modes.mode = .listen) := by
  rcases s.beforeFtu_cases with he | ⟨hw, he⟩
  · exact .inl (by rw [he]; rfl)
  · refine .inr ⟨hw, ?_⟩
    have alone := s.closeListenWindow.takeWithdrawal_joined
    rw [he]
    simpa [State.joined] using alone

/-- R and F in their ranges give one of three lengths (R85). -/
theorem frameLengthOf_cases {r f : Int} (hr : 0 ≤ r) (hr' : r ≤ 65535) (hf : -65535 ≤ f) (hf' : f ≤ 65535) :
    frameLengthOf r f = 4095 ∨ frameLengthOf r f = 4096 ∨ frameLengthOf r f = 4097 := by
  unfold frameLengthOf
  omega

/-- Settles O24, by the join request. -/
theorem boundaryLength : Obligations.BoundaryLength := by
  intro s ej hr
  obtain ⟨f, hf, start⟩ := s.beforeFtu_ftu
  refine ⟨_, exec_officeBoundary hr ej, ?_⟩
  rw [State.takeBoundary_ftu, Ftu.boundary_eq, start]
  dsimp only
  refine ⟨rfl, rfl, rfl, fun o ho => ?join, fun hn => ⟨f, hf, ?ordinary⟩⟩
  case join => simp only [Ftu.fixLength, ho, and_self]
  case ordinary =>
    simp only [Ftu.fixLength, hn]
    refine ⟨rfl, Int.emod_def .., fun h1 h2 h3 h4 => ⟨frameLengthOf_cases h1 h2 h3 h4, by omega, by omega⟩⟩

/-- Settles O25, by the index request and by whether the boundary ends a second. -/
theorem boundaryClock : Obligations.BoundaryClock := by
  intro s ej hr hs
  obtain ⟨f, -, start⟩ := s.beforeFtu_ftu
  refine ⟨_, exec_officeBoundary hr ej, ?_⟩
  rw [State.takeBoundary_ftu, Ftu.boundary_eq, start]
  dsimp only
  refine ⟨fun h => ?_, fun k h => ?_, fun v h => ?_, rfl, fun h => ?within, fun h => ?rollover⟩
  · simp only [Ftu.nextIndex, h]
  · simp only [Ftu.nextIndex, h]
  · simp only [Ftu.nextIndex, h]
  case within =>
    have hn : s.ftu.frameInSecond + 1 < Config.framesPerSecond := Nat.succ_lt_succ h
    rw [Ftu.advanceSecond, if_pos hn]
    exact ⟨rfl, rfl, rfl⟩
  case rollover =>
    have hn : ¬ s.ftu.frameInSecond + 1 < Config.framesPerSecond := by rw [h]; decide
    rw [Ftu.advanceSecond, if_neg hn]
    refine ⟨rfl, rfl, fun hm => if_neg ?_, fun hm hw ha => ?_⟩
    · rcases s.beforeFtu_mode with he | ⟨-, he⟩ <;> rw [he]
      · exact hm
      · decide
    · rcases s.beforeFtu_mode with he | ⟨hw', -⟩
      · rw [he, if_pos hm]
        exact satSucc_eq_min _
      · rw [hw] at hw'
        cases hw'

/-! A withdrawal at a boundary (R163) -/

/-- u shows what a withdrawal makes of s, the windows apart. -/
structure State.Withdrawn (s u : State) : Prop where
  modes : u.modes = s.takeWithdrawal.modes
  selector : u.selector = s.takeWithdrawal.selector
  listen : u.listen = s.takeWithdrawal.listen
  rail : u.rail = { s.takeWithdrawal.rail with
    width := u.rail.width, caps := u.rail.caps, listenWindow := u.rail.listenWindow, held := u.rail.held }
  frequency : u.ftu.frequency = s.takeWithdrawal.ftu.frequency
  gain : u.ftu.gain = s.takeWithdrawal.ftu.gain
  settleRun : u.ftu.settleRun = s.takeWithdrawal.ftu.settleRun
  excursionRun : u.ftu.excursionRun = s.takeWithdrawal.ftu.excursionRun

/-- A withdrawal reads no more than mode machine, selector, LISTEN procedure, rail and the FTU's words and runs. -/
theorem State.takeWithdrawal_withdrawn {s a : State} (same : s.Settled a) (listen : a.listen = s.listen)
    (rail : a.rail = { s.rail with held := a.rail.held }) (integral : a.ftu.integral = s.ftu.integral) :
    s.Withdrawn a.takeWithdrawal := by
  have joined : a.joined = s.joined := congrArg (fun m : ModeMachine => m.mode != .listen) same.modes
  constructor
  · rw [State.takeWithdrawal_modes, State.takeWithdrawal_modes, joined, same.modes]
  · rw [State.takeWithdrawal_selector, State.takeWithdrawal_selector, joined, same.selector]
  · rw [State.takeWithdrawal_listen, State.takeWithdrawal_listen, listen]
  · rw [State.takeWithdrawal_rail, State.takeWithdrawal_rail, joined, rail]
    cases s.joined <;> rfl
  all_goals
    rw [State.takeWithdrawal_ftu, State.takeWithdrawal_ftu, joined]
    cases s.joined
  · exact same.frequency
  · exact integral
  · exact same.gain
  · exact same.gain
  · exact same.settleRun
  · rfl
  · exact same.excursionRun
  · rfl

/-- A withdrawal taken before the FTU's work (R98). -/
theorem State.withdrawn_early (s : State) : s.Withdrawn s.closeListenWindow.takeWithdrawal.ftuBoundary := by
  have settled : s.Settled s.closeListenWindow := ⟨rfl, rfl, rfl, rfl, rfl, rfl, rfl, rfl, rfl, rfl⟩
  obtain ⟨modes, selector, listen, rail, frequency, gain, settle, excursion⟩ :=
    State.takeWithdrawal_withdrawn settled rfl rfl rfl
  obtain ⟨-, frequency', gain', settle', excursion'⟩ :=
    s.closeListenWindow.takeWithdrawal.ftu.boundary_keeps s.closeListenWindow.takeWithdrawal.modes.mode
  exact ⟨modes, selector, listen, rail, frequency'.trans frequency, gain'.trans gain, settle'.trans settle,
    excursion'.trans excursion⟩

/-- A withdrawal taken after the FTU's work. -/
theorem State.withdrawn_late (s : State) : s.Withdrawn s.closeListenWindow.ftuBoundary.takeWithdrawal := by
  obtain ⟨lasts, frequency, gain, settle, excursion⟩ := s.ftu.boundary_keeps s.modes.mode
  exact State.takeWithdrawal_withdrawn ⟨rfl, rfl, frequency, gain, settle, excursion, rfl, rfl, rfl, rfl⟩ rfl rfl
    lasts.integral

/-- Whatever the order, a withdrawal leaves the station's blocks as it does alone (R98, R163). -/
theorem State.takeBoundary_withdrawn {s : State} (ej : Bool) (hw : s.listen.withdrawRequest = true) :
    s.Withdrawn (s.takeBoundary ej) := by
  have alone {w : State} (h : s.Withdrawn w) (hj : w.joined = false) (begins : Bool) :
      s.Withdrawn (w.railBoundary begins) := by
    obtain ⟨h1, h2, h3, h4, h5, h6, h7, h8⟩ := h
    rw [State.railBoundary_alone hj]
    exact ⟨h1, h2, h3, by rw [State.openListenWindow, h4], h5, h6, h7, h8⟩
  have same := s.takeBoundary_same ej
  have station : s.Withdrawn (s.boundaryStart.stationBoundary ej s.ftu.joinRequest.isSome
      (s.listen.withdrawRequest && Config.withdrawBeforeFtu s.choiceSeq)) := by
    rw [State.boundaryStart_eq, State.beforeFtu, hw, Bool.true_and, State.stationBoundary]
    cases Config.withdrawBeforeFtu s.choiceSeq
    case true => exact alone s.withdrawn_early s.closeListenWindow.takeWithdrawal_joined _
    case false =>
      have passage : s.closeListenWindow.ftuBoundary.passage ej s.ftu.joinRequest.isSome =
          s.closeListenWindow.ftuBoundary.takeWithdrawal := if_pos hw
      rw [applyWhen_false, if_neg Bool.false_ne_true, passage]
      exact alone s.withdrawn_late (State.takeWithdrawal_joined _) _
  obtain ⟨h1, h2, h3, h4, h5, h6, h7, h8⟩ := station
  rw [← same.modes] at h1
  rw [← same.selector] at h2
  rw [← same.listen] at h3
  rw [← same.rail] at h4
  rw [← same.ftu] at h5 h6 h7 h8
  exact ⟨h1, h2, h3, h4, h5, h6, h7, h8⟩

/-- Settles O50: in LISTEN the mode law says what the withdrawal finds; from a joined mode it writes the rest. -/
theorem withdrawalTaken : Obligations.WithdrawalTaken := by
  intro s ej hr law hw
  have lasts := s.takeBoundary_lasts ej
  obtain ⟨modes, selector, listen, rail, frequency, gain, settle, excursion⟩ :=
    State.takeBoundary_withdrawn ej hw
  rw [State.takeWithdrawal_modes] at modes
  rw [State.takeWithdrawal_selector] at selector
  rw [State.takeWithdrawal_listen] at listen
  rw [State.takeWithdrawal_rail] at rail
  rw [State.takeWithdrawal_ftu] at frequency gain settle excursion
  refine ⟨_, exec_officeBoundary hr ej, ?_⟩
  rw [lasts.ftu.history, lasts.ftu.integral, lasts.counters, lasts.buildOut, rail, modes, selector, listen, frequency,
    gain, settle, excursion]
  cases hj : s.joined
  case false =>
    have hm : s.modes.mode = .listen := by simpa [State.joined] using hj
    obtain ⟨lead, driven⟩ := law.drive hm
    have none_selected : s.selector.selected = none := by
      have h := law.anchor
      rw [hm] at h
      simpa using h
    exact ⟨hm, law.listening hm, rfl, rfl, rfl, none_selected, lead, driven, rfl, rfl, rfl, rfl, rfl,
      fun hn => absurd hm hn⟩
  case true =>
    exact ⟨rfl, rfl, rfl, rfl, rfl, rfl, rfl, rfl, rfl, rfl, rfl, rfl, rfl,
      fun _ => ⟨rfl, rfl, rfl, rfl, rfl, rfl, rfl, rfl, rfl, rfl, rfl⟩⟩

/-! The join frame and the join (R86, R160, R161) -/

/-- What a pending join request says of the station that holds it (R159, R163). -/
theorem State.ModeLaw.of_joinRequest {s : State} (law : s.ModeLaw) (h : s.ftu.joinRequest.isSome = true) :
    s.listen.phase = .joinPending ∧ s.modes.mode = .listen ∧ s.listen.withdrawRequest = false ∧
      s.listen.withdrawn = false := by
  have pending := law.request h
  refine ⟨pending, law.phase (by rw [pending]; decide), Bool.eq_false_iff.mpr fun hw => law.noJoin hw pending,
    Bool.eq_false_iff.mpr fun hw => ?_⟩
  obtain ⟨-, running⟩ := law.withdrawn hw
  rw [pending] at running
  cases running

/-- A pending join begins its frame: no LISTEN window, and the rail as it was (R86, R158). -/
theorem State.takeBoundary_begins_join {s : State} (ej : Bool) (law : s.ModeLaw)
    (hj : s.ftu.joinRequest.isSome = true) :
    (s.takeBoundary ej).listen = { s.listen with phase := .joinFrame } ∧
      (s.takeBoundary ej).modes.mode = .listen ∧ (s.takeBoundary ej).rail.listenWindow = false ∧
      (s.takeBoundary ej).rail.pulses = s.rail.pulses := by
  obtain ⟨pending, listening, hw, stays⟩ := law.of_joinRequest hj
  have passage : s.closeListenWindow.ftuBoundary.passage ej true = { s.closeListenWindow.ftuBoundary with
      listen := { s.listen with phase := .joinFrame } } := by
    rw [State.passage, if_neg, if_neg, if_neg, if_pos rfl]
    · rfl
    · simp [stays]
    · simp [pending]
    · simp [hw]
  have same := s.takeBoundary_same ej
  rw [State.boundaryStart_ordinary hw, hw, Bool.false_and, hj, State.stationBoundary, if_neg Bool.false_ne_true,
    passage, State.railBoundary_alone (by simp [State.joined, listening])] at same
  rw [same.listen, same.modes, same.rail]
  exact ⟨rfl, listening, rfl, rfl⟩

section
variable {s : State} (ej : Bool) (law : s.ModeLaw) (hp : s.listen.phase = .joinFrame)
  (hw : s.listen.withdrawRequest = false)
include law hp hw

/-- At the end of a join frame the station's blocks do the join and then drive the rail (R161). -/
theorem State.takeBoundary_join :
    (s.takeBoundary ej).SameStation (s.closeListenWindow.ftuBoundary.takeJoin.railBoundary false) := by
  have request : s.ftu.joinRequest.isSome = false := Bool.eq_false_iff.mpr fun h => by
    obtain ⟨pending, -⟩ := law.of_joinRequest h
    rw [hp] at pending
    cases pending
  have passage : s.closeListenWindow.ftuBoundary.passage ej false = s.closeListenWindow.ftuBoundary.takeJoin := by
    rw [State.passage, if_neg, if_pos]
    · exact hp
    · simp [hw]
  have same := s.takeBoundary_same ej
  rw [State.boundaryStart_ordinary hw, hw, Bool.false_and, request, State.stationBoundary, if_neg Bool.false_ne_true,
    passage] at same
  exact same

/-- The mode and the selection after the join, by the references that are QUALIFIED (R114, R125). -/
theorem State.takeBoundary_join_selection :
    (s.choice = none →
      (s.takeBoundary ej).modes = { mode := .track, grade := some 1, offsetRun := 0 } ∧
      (s.takeBoundary ej).selector = s.selector) ∧
    ∀ r, s.choice = some r →
      (s.takeBoundary ej).modes =
        { mode := .anchor, grade := some (anchorGrade (s.straps.refClass r)), offsetRun := 0 } ∧
      (s.takeBoundary ej).selector =
        { s.selector with selected := some r, buildPending := true, offered := none } := by
  have same := State.takeBoundary_join ej law hp hw
  rw [same.modes, same.selector, State.railBoundary_modes, State.railBoundary_selector]
  exact ⟨fun h => State.takeJoin_track h, fun r h => State.takeJoin_anchor h⟩

/-- The procedure starts afresh, with ACQUIRE and empty runs (R88, R161). -/
theorem State.takeBoundary_join_listen : (s.takeBoundary ej).listen = s.listen.afresh ∧
    (s.takeBoundary ej).ftu.gain = .acquire ∧ (s.takeBoundary ej).ftu.settleRun = 0 ∧
    (s.takeBoundary ej).ftu.excursionRun = 0 := by
  have same := State.takeBoundary_join ej law hp hw
  rw [same.listen, same.ftu, State.railBoundary_listen, State.railBoundary_ftu, State.takeJoin_listen,
    State.takeJoin_ftu]
  exact ⟨rfl, rfl, rfl, rfl⟩

/-- The rail of the first joined frame: the marks cleared, its pulses begun (R137, R138, R141, R161). -/
theorem State.takeBoundary_join_rail : ∃ lead : Bool,
    (lead = true ↔ s.rail.bestGrade ≤ (s.takeBoundary ej).modes.grade.getD 0) ∧
    (s.takeBoundary ej).rail = { s.rail.clearMarks with
      leadAbsentRun := 0
      held := (s.takeBoundary ej).rail.held
      listenWindow := false
      drivenGrade := (s.takeBoundary ej).modes.grade
      drivingLead := lead
      pulses := { s.rail.pulses with
        beat := some (s.ftu.crystal + beatTicks (s.takeBoundary ej).ftu.officeIndex lead)
        lead := if lead then some (s.ftu.crystal + 32) else s.rail.pulses.lead }
      caps := { s.rail.caps with
        beat := s.rail.caps.beat.ownFall
        lead := if lead then s.rail.caps.lead.ownFall else s.rail.caps.lead } } := by
  have same := State.takeBoundary_join ej law hp hw
  have crystal : s.closeListenWindow.ftuBoundary.ftu.crystal = s.ftu.crystal :=
    (s.ftu.boundary_keeps s.modes.mode).1.crystal
  rw [same.modes, same.rail, same.ftu, State.railBoundary_ftu, State.railBoundary_modes,
    State.railBoundary_joined (State.takeJoin_joined _), State.driveRail_rail]
  refine ⟨_, decide_eq_true_iff, ?_⟩
  simp only [State.drivesLead, State.takeJoin_rail, State.takeJoin_ftu, Ftu.setGain, crystal]
  rfl

end

/-- Settles O54: mode and selection by the references, the rest of the join and the first pulses by their equations. -/
theorem join : Obligations.Join := by
  intro s ej hr law hp hw
  obtain ⟨track, anchor⟩ := State.takeBoundary_join_selection ej law hp hw
  obtain ⟨listen, gain, settle, excursion⟩ := State.takeBoundary_join_listen ej law hp hw
  obtain ⟨lead, drives, rail⟩ := State.takeBoundary_join_rail ej law hp hw
  have offsetRun : (s.takeBoundary ej).modes.offsetRun = 0 := by
    cases hc : s.choice with
    | none => rw [(track hc).1]
    | some r => rw [(anchor r hc).1]
  refine ⟨_, exec_officeBoundary hr ej, gain, settle, excursion, offsetRun, (s.takeBoundary_lasts ej).counters, ?_⟩
  generalize s.takeBoundary ej = u at *
  rw [listen, rail]
  refine ⟨rfl, rfl, rfl, rfl, rfl, rfl, rfl, rfl, rfl, rfl, rfl, rfl, rfl, rfl, drives, rfl, rfl, rfl, rfl, rfl, rfl,
    rfl, fun ha hb => ?track, fun ha hb => ?refA, fun hb ha => ?refB⟩
  case track =>
    obtain ⟨modes, selector⟩ := track (State.choice_none ha hb)
    exact ⟨congrArg _ modes, congrArg _ modes, selector⟩
  case refA =>
    obtain ⟨modes, selector⟩ := anchor .refA (State.choice_refA ha hb)
    exact ⟨congrArg _ modes, congrArg _ modes, selector⟩
  case refB =>
    obtain ⟨modes, selector⟩ := anchor .refB (State.choice_refB hb ha)
    exact ⟨congrArg _ modes, congrArg _ modes, selector⟩

end Sys2Proof.Machine
end

section
/-! PROOFS. The measurement close by mode (R82, R84, R97, R118, R123, R129, R144): what each block's part of it writes,
and what the marks and the LISTEN procedure leave of that. -/

namespace Sys2Proof.Machine

theorem exec_measurementClose {s : State} (hr : s.running = true) :
    exec .measurementClose s = .next s.takeClose := congrArg _ (whenRunning_running hr)

/-! What follows the timing blocks at a close leaves of them -/

/-- The same in all that the timing blocks write at a close besides the FTU. -/
structure State.SameTimed (a b : State) : Prop where
  mode : a.modes.mode = b.modes.mode
  offsetRun : a.modes.offsetRun = b.modes.offsetRun
  selector : a.selector = b.selector
  leadAbsentRun : a.rail.leadAbsentRun = b.rail.leadAbsentRun
  leadLost : a.counters.leadLost = b.counters.leadLost
  rangeFlag : a.flags.range = b.flags.range
  leadLostFlag : a.flags.leadLost = b.flags.leadLost

theorem State.SameTimed.trans {a b c : State} (h : a.SameTimed b) (g : b.SameTimed c) : a.SameTimed c :=
  ⟨h.1.trans g.1, h.2.trans g.2, h.3.trans g.3, h.4.trans g.4, h.5.trans g.5, h.6.trans g.6, h.7.trans g.7⟩

theorem State.noteMark_timed (s : State) : s.noteMark.SameTimed s := by
  unfold State.noteMark
  (repeat' split) <;> exact ⟨rfl, rfl, rfl, rfl, rfl, rfl, rfl⟩

theorem State.relabelStep_timed (s : State) : s.relabelStep.SameTimed s := by
  unfold State.relabelStep State.relabelBy
  dsimp only
  (repeat' split) <;> exact ⟨rfl, rfl, rfl, rfl, rfl, rfl, rfl⟩

theorem State.closeMultiframe_timed (s : State) : s.closeMultiframe.SameTimed s := by
  have run : s.rail.countMark.leadAbsentRun = s.rail.leadAbsentRun := by
    unfold Rail.countMark
    (repeat' split) <;> rfl
  obtain ⟨h1, h2, h3, h4, h5, h6, h7⟩ := State.relabelStep_timed { s with rail := s.rail.countMark }
  exact ⟨h1, h2, h3, h4.trans run, h5, h6, h7⟩

theorem State.marksAtClose_timed (s : State) : s.marksAtClose.SameTimed s := by
  unfold State.marksAtClose
  (repeat' split)
  · exact (State.closeMultiframe_timed _).trans s.noteMark_timed
  · exact s.noteMark_timed
  all_goals exact ⟨rfl, rfl, rfl, rfl, rfl, rfl, rfl⟩

theorem State.listenAtClose_timed (s : State) (w : Option HeldWindow) : (s.listenAtClose w).SameTimed s := by
  unfold State.listenAtClose State.decideJoin
  (repeat' split) <;> exact ⟨rfl, rfl, rfl, rfl, rfl, rfl, rfl⟩

/-- Besides the FTU a close leaves the timing blocks as they leave themselves, the grade apart. -/
theorem State.takeClose_timed (s : State) : s.takeClose.SameTimed s.timedClose := by
  have done : s.closeDone.SameTimed s.timedClose :=
    (State.listenAtClose_timed ..).trans (State.marksAtClose_timed _)
  rw [State.takeClose_eq]
  generalize s.closeDone = x at done ⊢
  obtain ⟨h1, h2, h3, h4, h5, h6, h7⟩ := done
  exact ⟨h1, h2, h3, h4, h5, h6, h7⟩

theorem State.selectedClass_eq (s : State) : s.selectedClass = s.selector.selected.bind s.straps.refClass := by
  unfold State.selectedClass
  cases s.selector.selected <;> rfl

/-- The grade is that of what the close leaves (R122, R123). -/
theorem State.takeClose_grade (s : State) : s.takeClose.modes.grade =
    gradeOf s.takeClose.modes.mode s.takeClose.ftu.gain (s.takeClose.selector.selected.bind s.straps.refClass)
      s.takeClose.ftu.holdAge := by
  have straps : s.closeDone.straps = s.straps := by simp [State.closeDone, State.timedClose]
  rw [State.takeClose_eq, ← straps]
  generalize s.closeDone = x
  change gradeOf x.modes.mode x.ftu.gain x.selectedClass x.ftu.holdAge = _
  rw [State.selectedClass_eq]
  rfl

/-! The lead-absent run (R144) -/

section
variable {s : State}

theorem State.countLeadAbsent_elsewhere (h : s.modes.mode ≠ .track) : s.countLeadAbsent = s := if_neg h

/-- A rail error ends the run. -/
theorem State.countLeadAbsent_measured (hm : s.modes.mode = .track) (he : s.rail.railError ≠ none) :
    s.countLeadAbsent = { s with rail := { s.rail with leadAbsentRun := 0 } } := by
  obtain ⟨e, he⟩ := Option.ne_none_iff_exists'.mp he
  rw [State.countLeadAbsent, if_pos hm, he]

theorem State.countLeadAbsent_counted (hm : s.modes.mode = .track) (he : s.rail.railError = none)
    (hr : s.rail.leadAbsentRun ≠ 63) :
    s.countLeadAbsent = { s with rail := { s.rail with leadAbsentRun := s.rail.leadAbsentRun + 1 } } := by
  rw [State.countLeadAbsent, if_pos hm, he]
  exact if_neg fun h => hr (Nat.succ.inj h)

theorem State.countLeadAbsent_loss (hm : s.modes.mode = .track) (he : s.rail.railError = none)
    (hr : s.rail.leadAbsentRun = 63) : s.countLeadAbsent = s.loseLead := by
  rw [State.countLeadAbsent, if_pos hm, he]
  exact if_pos (congrArg Nat.succ hr)

end

/-! The FTU's close and the work of a close (R82, R96, R118) -/

section
variable (s : State)

theorem State.ftuClose_ftu : s.ftuClose.ftu = s.ftu.close s.modes.mode s.offeredError := by
  unfold State.ftuClose
  dsimp only
  split <;> rfl

theorem State.ftuClose_selector : s.ftuClose.selector =
    if s.modes.mode = .anchor then { s.selector with offered := none } else s.selector := by
  unfold State.ftuClose
  dsimp only
  split <;> rfl

theorem State.ftuClose_flags : s.ftuClose.flags =
    if s.ftu.closeRaisesRange s.offeredError then s.flags.raise .range else s.flags := by
  unfold State.ftuClose
  dsimp only
  split <;> rfl

theorem State.countOffset_flags_ne {f : FlagId} (h : f ≠ .offset) : s.countOffset.flags.get f = s.flags.get f := by
  unfold State.countOffset
  (repeat' split)
  · exact Flags.get_raise_ne _ h
  all_goals rfl

theorem State.countOffset_elsewhere {s : State} (h : s.modes.mode ≠ .anchor) : s.countOffset = s := if_neg h

end

/-- u shows what the work of a close makes of x, the FTU's requests apart. -/
structure State.ClosedFrom (x u : State) : Prop where
  ftu : u.ftu = { x.countLeadAbsent.ftu.close x.modes.mode x.offeredError with
    indexRequest := u.ftu.indexRequest, joinRequest := u.ftu.joinRequest }
  rangeFlag : u.flags.range = if x.countLeadAbsent.ftu.closeRaisesRange x.offeredError then x.flags.range.raise
    else x.flags.range
  mode : u.modes.mode = x.modes.mode
  offsetRun : x.modes.mode ≠ .anchor → u.modes.offsetRun = x.modes.offsetRun
  selector : u.selector = if x.modes.mode = .anchor then { x.selector with offered := none } else x.selector
  leadAbsentRun : u.rail.leadAbsentRun = x.countLeadAbsent.rail.leadAbsentRun
  leadLost : u.counters.leadLost = x.countLeadAbsent.counters.leadLost
  leadLostFlag : u.flags.leadLost = x.countLeadAbsent.flags.leadLost

theorem State.closeWork_closedFrom (x : State) : x.ClosedFrom x.closeWork := by
  have offered : x.countLeadAbsent.offeredError = x.offeredError := by
    simp only [State.offeredError, State.countLeadAbsent_modes, State.countLeadAbsent_selector,
      x.countLeadAbsent_results.railError]
  have ftu : x.closeWork.ftu = x.countLeadAbsent.ftu.close x.modes.mode x.offeredError := by
    rw [State.closeWork, State.countOffset_ftu, State.ftuClose_ftu, State.countLeadAbsent_modes, offered]
  have flags := x.countLeadAbsent.ftuClose_flags
  rw [offered] at flags
  have range : x.countLeadAbsent.flags.range = x.flags.range := by
    unfold State.countLeadAbsent
    (repeat' split) <;> rfl
  have mode : x.closeWork.modes.mode = x.modes.mode := by
    have kept (y : State) : y.countOffset.modes.mode = y.modes.mode := by
      unfold State.countOffset
      (repeat' split) <;> rfl
    rw [State.closeWork, kept, State.ftuClose_modes, State.countLeadAbsent_modes]
  refine
    { ftu := by rw [ftu]
      rangeFlag := ?_
      mode := mode
      offsetRun := fun h => ?_
      selector := ?_
      leadAbsentRun := by rw [State.closeWork, State.countOffset_rail, State.ftuClose_rail]
      leadLost := by rw [State.closeWork, State.countOffset_counters, State.ftuClose_counters]
      leadLostFlag := ?_ }
  · refine (State.countOffset_flags_ne (f := .range) _ nofun).trans ?_
    rw [flags]
    split
    · exact congrArg Flag.raise range
    · exact range
  · rw [State.closeWork, State.countOffset_elsewhere, State.ftuClose_modes, State.countLeadAbsent_modes]
    rwa [State.ftuClose_modes, State.countLeadAbsent_modes]
  · rw [State.closeWork, State.countOffset_selector, State.ftuClose_selector, State.countLeadAbsent_modes,
      State.countLeadAbsent_selector]
  · refine (State.countOffset_flags_ne (f := .leadLost) _ nofun).trans ?_
    rw [flags]
    split <;> rfl

/-- What follows the timing blocks leaves the work of a close. -/
theorem State.ClosedFrom.takeClose {x s : State} (h : x.ClosedFrom s.timedClose) : x.ClosedFrom s.takeClose := by
  obtain ⟨mode, offsetRun, selector, leadAbsentRun, leadLost, rangeFlag, leadLostFlag⟩ := s.takeClose_timed
  have ftu := s.takeClose_ftu
  rw [h.ftu] at ftu
  exact
    { ftu := ftu
      rangeFlag := rangeFlag.trans h.rangeFlag
      mode := mode.trans h.mode
      offsetRun := fun hm => offsetRun.trans (h.offsetRun hm)
      selector := selector.trans h.selector
      leadAbsentRun := leadAbsentRun.trans h.leadAbsentRun
      leadLost := leadLost.trans h.leadLost
      leadLostFlag := leadLostFlag.trans h.leadLostFlag }

/-! The HOLD test at a close (R97, R129) -/

theorem State.holdTest_iff (s : State) : s.holdTest = true ↔ s.modes.mode = .hold ∧
    s.modes.grade.getD 0 < s.rail.bestGrade ∧ s.rail.drivenGrade.getD 0 < s.rail.bestGrade ∧
    s.rail.caps.pulseGrade.getD 0 < s.rail.bestGrade := by
  simp only [State.holdTest, Bool.and_eq_true, decide_eq_true_eq, and_assoc]

/-- The results apart, the rail is as the close finds it when it forms them. -/
theorem State.formAtClose_rail (s : State) : s.formAtClose.rail = { s.rail with
    bestGrade := s.takeClose.rail.bestGrade
    railError := s.takeClose.rail.railError
    leadSpread := s.takeClose.rail.leadSpread } := by
  obtain ⟨best, error, spread⟩ := s.takeClose_results
  rw [best, error, spread]
  unfold State.formAtClose
  (repeat' split) <;> rfl

/-- A close that does not change the mode does its work on the results it formed. -/
theorem State.takeClose_work {s : State} (h : s.formAtClose.holdTest = false) :
    s.formAtClose.ClosedFrom s.takeClose := by
  refine State.ClosedFrom.takeClose ?_
  rw [State.timedClose, State.closeModes, h]
  exact State.closeWork_closedFrom _

/-- The phase error offered at a close, by its mode: in TRACK the rail error just formed (R82). -/
theorem State.formAtClose_offered (s : State) {m : Mode} (hm : s.modes.mode = m) :
    s.formAtClose.offeredError = if m = .track then s.takeClose.rail.railError
      else if m = .anchor then s.selector.offered else none := by
  rw [State.offeredError, State.formAtClose_rail, State.formAtClose_modes, State.formAtClose_selector, hm]
  cases m <;> rfl

/-- In a mode without a rail measurement the work is the FTU's own close (R82, R144). -/
theorem State.takeClose_elsewhere {s : State} {m : Mode} (hm : s.modes.mode = m) (ht : m ≠ .track)
    (h : s.formAtClose.holdTest = false) {e : Option Int} (he : s.formAtClose.offeredError = e) :
    s.takeClose.ftu = { s.ftu.close m e with
      indexRequest := s.takeClose.ftu.indexRequest, joinRequest := s.takeClose.ftu.joinRequest } ∧
    s.takeClose.flags.range = (if s.ftu.closeRaisesRange e then s.flags.range.raise else s.flags.range) ∧
    s.takeClose.modes.mode = m ∧ s.takeClose.rail.leadAbsentRun = s.rail.leadAbsentRun := by
  have closed := State.takeClose_work h
  have counted : s.formAtClose.countLeadAbsent = s.formAtClose :=
    State.countLeadAbsent_elsewhere (by rwa [State.formAtClose_modes, hm])
  have ftu := closed.ftu
  have range := closed.rangeFlag
  have run := closed.leadAbsentRun
  rw [counted, State.formAtClose_ftu, State.formAtClose_modes, hm, he] at ftu
  rw [counted, State.formAtClose_ftu, State.formAtClose_flags, he] at range
  rw [counted, State.formAtClose_rail] at run
  exact ⟨ftu, range, closed.mode.trans (by rw [State.formAtClose_modes, hm]), run⟩

section
variable {s : State} (hm : s.modes.mode = .track)
include hm

theorem State.takeClose_track_work : s.formAtClose.ClosedFrom s.takeClose :=
  State.takeClose_work (Bool.eq_false_iff.mpr fun h => by
    obtain ⟨hold, -⟩ := (State.holdTest_iff _).mp h
    rw [State.formAtClose_modes, hm] at hold
    cases hold)

/-- A close in TRACK that makes no lead loss: a rail error ends the lead-absent run, any other close counts (R144). -/
theorem State.takeClose_track (hn : ¬ (s.takeClose.rail.railError = none ∧ s.rail.leadAbsentRun = 63)) :
    s.takeClose.ftu = { s.ftu.close .track s.takeClose.rail.railError with
      indexRequest := s.takeClose.ftu.indexRequest, joinRequest := s.takeClose.ftu.joinRequest } ∧
    s.takeClose.flags.range = (if s.ftu.closeRaisesRange s.takeClose.rail.railError then s.flags.range.raise
      else s.flags.range) ∧
    s.takeClose.rail.leadAbsentRun =
      (if s.takeClose.rail.railError = none then s.rail.leadAbsentRun + 1 else 0) ∧
    s.takeClose.counters.leadLost = s.counters.leadLost ∧ s.takeClose.flags.leadLost = s.flags.leadLost := by
  have mode : s.formAtClose.modes.mode = .track := by rwa [State.formAtClose_modes]
  have error : s.formAtClose.rail.railError = s.takeClose.rail.railError := by rw [State.formAtClose_rail]
  have run : s.formAtClose.rail.leadAbsentRun = s.rail.leadAbsentRun := by rw [State.formAtClose_rail]
  have hc : s.formAtClose.countLeadAbsent = { s.formAtClose with rail := { s.formAtClose.rail with
      leadAbsentRun := if s.takeClose.rail.railError = none then s.rail.leadAbsentRun + 1 else 0 } } := by
    split
    · rename_i he
      rw [State.countLeadAbsent_counted mode (error.trans he) (run ▸ fun h => hn ⟨he, h⟩), run]
    · rename_i he
      exact State.countLeadAbsent_measured mode (error ▸ he)
  obtain ⟨ftu, range, -, -, -, counted, lost, flag⟩ := State.takeClose_track_work hm
  rw [hc, s.formAtClose_offered hm, State.formAtClose_modes, hm, State.formAtClose_ftu] at ftu
  rw [hc, s.formAtClose_offered hm, State.formAtClose_ftu, State.formAtClose_flags] at range
  rw [hc, State.formAtClose_counters] at lost
  rw [hc, State.formAtClose_flags] at flag
  rw [hc] at counted
  exact ⟨ftu, range, counted, lost, flag⟩

/-- The 64th lead-absent close in a row (R144). -/
theorem State.takeClose_track_loss (he : s.takeClose.rail.railError = none) (hr : s.rail.leadAbsentRun = 63) :
    s.takeClose.ftu = { (s.ftu.setGain .acquire).close .track none with
      indexRequest := s.takeClose.ftu.indexRequest, joinRequest := s.takeClose.ftu.joinRequest } ∧
    s.takeClose.flags.range = s.flags.range ∧ s.takeClose.rail.leadAbsentRun = 0 ∧
    s.takeClose.counters.leadLost = s.counters.leadLost + 1 ∧
    s.takeClose.flags.leadLost = s.flags.leadLost.raise := by
  have hc : s.formAtClose.countLeadAbsent = s.formAtClose.loseLead :=
    State.countLeadAbsent_loss (by rwa [State.formAtClose_modes]) (by rwa [State.formAtClose_rail])
      (by rwa [State.formAtClose_rail])
  obtain ⟨ftu, range, -, -, -, run, lost, flag⟩ := State.takeClose_track_work hm
  have lossFtu : s.formAtClose.loseLead.ftu = s.ftu.setGain .acquire :=
    congrArg (Ftu.setGain · .acquire) s.formAtClose_ftu
  rw [hc, lossFtu, s.formAtClose_offered hm, State.formAtClose_modes, hm, if_pos rfl, he] at ftu
  rw [s.formAtClose_offered hm, if_pos rfl, he, State.formAtClose_flags] at range
  rw [hc] at run lost flag
  exact ⟨ftu, range, run, lost.trans (congrArg (StationCounters.leadLost · + 1) s.formAtClose_counters),
    flag.trans (congrArg (fun fs : Flags => fs.leadLost.raise) s.formAtClose_flags)⟩

end

/-! From HOLD to TRACK -/

/-- Outside ANCHOR a close leaves the history, and no close writes the hold age (R89, R95). -/
theorem Ftu.close_unmoved (f : Ftu) {m : Mode} (hm : m ≠ .anchor) (o : Option Int) :
    (f.close m o).history = f.history ∧ (f.close m o).holdAge = f.holdAge := by
  cases o with
  | none => exact ⟨rfl, rfl⟩
  | some x =>
    rw [Ftu.close, Ftu.closeMeasured_eq]
    exact ⟨if_neg fun h => hm h.1, rfl⟩

/-- One close does not leave an ACQUIRE that has just begun (R87). -/
theorem Ftu.close_setGain_acquire (f : Ftu) (m : Mode) (o : Option Int) :
    ((f.setGain .acquire).close m o).gain = .acquire := by
  cases o with
  | none => rfl
  | some x =>
    rw [Ftu.close, Ftu.closeMeasured_eq, Ftu.countGain_acquire rfl]
    (repeat' split)
    · rename_i h; cases h
    all_goals rfl

theorem State.followBetter_ftu (s : State) : s.followBetter.ftu = s.ftu.setGain .acquire := rfl

section
variable {s : State} (h : s.formAtClose.holdTest = true)
include h

/-- The change to TRACK taken before the close's own work, which then takes the rail error with ACQUIRE. -/
theorem State.takeClose_followFirst (hb : Config.holdTestBeforeClose s.choiceSeq = true) :
    (s.takeClose.modes.mode = .track ∧ s.takeClose.modes.offsetRun = 0) ∧
    s.takeClose.ftu = { (s.ftu.setGain .acquire).close .track s.takeClose.rail.railError with
      indexRequest := s.takeClose.ftu.indexRequest, joinRequest := s.takeClose.ftu.joinRequest } ∧
    s.takeClose.flags.range = (if (s.ftu.setGain .acquire).closeRaisesRange s.takeClose.rail.railError
      then s.flags.range.raise else s.flags.range) ∧
    s.takeClose.rail.leadAbsentRun = if s.takeClose.rail.railError = none then 1 else 0 := by
  have timed : s.timedClose = s.formAtClose.followBetter.closeWork := by
    rw [State.timedClose, State.closeModes, h, hb]
    rfl
  obtain ⟨x, hx⟩ : ∃ x, x = s.formAtClose.followBetter := ⟨_, rfl⟩
  rw [← hx] at timed
  have mode : x.modes.mode = .track := by rw [hx]; rfl
  have offsetRun : x.modes.offsetRun = 0 := by rw [hx]; rfl
  have error : x.rail.railError = s.takeClose.rail.railError := by
    rw [hx, s.formAtClose.followBetter_results.railError, s.takeClose_results.railError]
  have offered : x.offeredError = s.takeClose.rail.railError := by rw [State.offeredError, mode, error]
  have ftu : x.ftu = s.ftu.setGain .acquire := by
    rw [hx, State.followBetter_ftu, State.formAtClose_ftu]
  have flags : x.flags = s.flags := by rw [hx, State.followBetter_flags, State.formAtClose_flags]
  have run : x.rail.leadAbsentRun = 0 := by rw [hx]; rfl
  have counted : x.countLeadAbsent = { x with rail := { x.rail with
      leadAbsentRun := if s.takeClose.rail.railError = none then 1 else 0 } } := by
    split
    · rename_i he
      rw [State.countLeadAbsent_counted mode (error.trans he) (by rw [run]; decide), run]
    · rename_i he
      exact State.countLeadAbsent_measured mode (error ▸ he)
  have closed : x.ClosedFrom s.takeClose := State.ClosedFrom.takeClose (timed ▸ x.closeWork_closedFrom)
  obtain ⟨closedFtu, range, closedMode, closedOffset, -, closedRun, -, -⟩ := closed
  rw [counted, offered, mode, ftu] at closedFtu
  rw [counted, offered, ftu, flags] at range
  rw [counted] at closedRun
  exact ⟨⟨closedMode.trans mode, (closedOffset (by rw [mode]; decide)).trans offsetRun⟩, closedFtu, range,
    closedRun⟩

/-- The change taken after it: the close itself is unmeasured. -/
theorem State.takeClose_followAfter (hm : s.modes.mode = .hold)
    (hb : Config.holdTestBeforeClose s.choiceSeq = false) :
    (s.takeClose.modes.mode = .track ∧ s.takeClose.modes.offsetRun = 0) ∧
    s.takeClose.ftu = { (s.ftu.close .hold none).setGain .acquire with
      indexRequest := s.takeClose.ftu.indexRequest, joinRequest := s.takeClose.ftu.joinRequest } ∧
    s.takeClose.flags.range = s.flags.range ∧ s.takeClose.rail.leadAbsentRun = 0 := by
  have timed : s.timedClose = s.formAtClose.closeWork.followBetter := by
    rw [State.timedClose, State.closeModes, h, hb]
    rfl
  have offered : s.formAtClose.offeredError = none := s.formAtClose_offered hm
  have counted : s.formAtClose.countLeadAbsent = s.formAtClose :=
    State.countLeadAbsent_elsewhere (by rw [State.formAtClose_modes, hm]; decide)
  have ftu : s.timedClose.ftu = (s.ftu.close .hold none).setGain .acquire := by
    rw [timed, State.followBetter_ftu, State.closeWork, State.countOffset_ftu, State.ftuClose_ftu, counted, offered,
      State.formAtClose_ftu, State.formAtClose_modes, hm]
  have range : s.timedClose.flags.range = s.flags.range := by
    rw [timed, State.followBetter_flags, s.formAtClose.closeWork_closedFrom.rangeFlag, counted, offered,
      State.formAtClose_flags]
    rfl
  have shown := s.takeClose_timed
  have closedFtu := s.takeClose_ftu
  rw [ftu] at closedFtu
  refine ⟨⟨shown.mode.trans ?_, shown.offsetRun.trans ?_⟩, closedFtu, shown.rangeFlag.trans range,
    shown.leadAbsentRun.trans ?_⟩ <;> rw [timed] <;> rfl

end

/-- A better grade takes the station from HOLD to TRACK, before the close's own work or after it (R97, R129). -/
theorem State.takeClose_follow {s : State} (hm : s.modes.mode = .hold) (h : s.formAtClose.holdTest = true) :
    s.takeClose.modes.mode = .track ∧ s.takeClose.modes.grade = some 1 ∧ s.takeClose.ftu.gain = .acquire ∧
    s.takeClose.modes.offsetRun = 0 ∧ s.takeClose.ftu.history = s.ftu.history ∧
    s.takeClose.ftu.holdAge = s.ftu.holdAge ∧
    (s.takeClose.ftu = { (s.ftu.close .hold none).setGain .acquire with
        indexRequest := s.takeClose.ftu.indexRequest, joinRequest := s.takeClose.ftu.joinRequest } ∧
      s.takeClose.flags.range = s.flags.range ∧ s.takeClose.rail.leadAbsentRun = 0 ∨
    s.takeClose.ftu = { (s.ftu.setGain .acquire).close .track s.takeClose.rail.railError with
        indexRequest := s.takeClose.ftu.indexRequest, joinRequest := s.takeClose.ftu.joinRequest } ∧
      s.takeClose.flags.range = (if (s.ftu.setGain .acquire).closeRaisesRange s.takeClose.rail.railError
        then s.flags.range.raise else s.flags.range) ∧
      s.takeClose.rail.leadAbsentRun = if s.takeClose.rail.railError = none then 1 else 0) := by
  have grade (mode : s.takeClose.modes.mode = .track) (gain : s.takeClose.ftu.gain = .acquire) :
      s.takeClose.modes.grade = some 1 := by
    rw [s.takeClose_grade, mode, gain]
    rfl
  cases hc : Config.holdTestBeforeClose s.choiceSeq with
  | false =>
    obtain ⟨⟨mode, offsetRun⟩, ftu, range, run⟩ := State.takeClose_followAfter h hm hc
    have gain : s.takeClose.ftu.gain = .acquire := by rw [ftu]; rfl
    exact ⟨mode, grade mode gain, gain, offsetRun, by rw [ftu]; rfl, by rw [ftu]; rfl, .inl ⟨ftu, range, run⟩⟩
  | true =>
    obtain ⟨⟨mode, offsetRun⟩, ftu, range, run⟩ := State.takeClose_followFirst h hc
    obtain ⟨history, holdAge⟩ := (s.ftu.setGain .acquire).close_unmoved (m := .track) nofun
      s.takeClose.rail.railError
    have gain : s.takeClose.ftu.gain = .acquire := by rw [ftu]; exact Ftu.close_setGain_acquire ..
    exact ⟨mode, grade mode gain, gain, offsetRun, by rw [ftu]; exact history, by rw [ftu]; exact holdAge,
      .inr ⟨ftu, range, run⟩⟩

/-- Settles O30, mode by mode. -/
theorem closeSource : Obligations.CloseSource := by
  intro s hr
  refine ⟨_, exec_measurementClose hr, s.takeClose_grade, ?_⟩
  intro same range
  have test := s.formAtClose.holdTest_iff
  rw [s.formAtClose_rail, s.formAtClose_modes] at test
  have untested (h : s.modes.mode ≠ .hold) : s.formAtClose.holdTest = false :=
    Bool.eq_false_iff.mpr fun ht => h (test.mp ht).1
  refine ⟨fun hm => ?inListen, fun hm => ?inAnchor, fun hm => ?inTrack,
    fun hm => ⟨fun hn => ?inHold, fun hb => ?better⟩⟩
  case inListen => exact State.takeClose_elsewhere hm nofun (untested (by rw [hm]; decide)) (s.formAtClose_offered hm)
  case inAnchor =>
    have h := untested (by rw [hm]; decide)
    obtain ⟨ftu, range, mode, run⟩ := State.takeClose_elsewhere hm nofun h (s.formAtClose_offered hm)
    refine ⟨ftu, range, mode, ?_, run⟩
    rw [(State.takeClose_work h).selector, State.formAtClose_modes, hm, State.formAtClose_selector]
    rfl
  case inTrack =>
    refine ⟨(State.takeClose_track_work hm).mode.trans (by rw [State.formAtClose_modes, hm]), fun he => ?_,
      fun he hn => ?_, fun hn => ?_, fun he hn => ?_⟩
    · obtain ⟨-, -, run, -⟩ := State.takeClose_track hm fun h => he h.1
      rw [run, if_neg he]
    · obtain ⟨-, -, run, lost, flag⟩ := State.takeClose_track hm fun h => hn h.2
      exact ⟨run.trans (if_pos he), lost, flag⟩
    · obtain ⟨ftu, range, -⟩ := State.takeClose_track hm hn
      exact ⟨ftu, range⟩
    · obtain ⟨ftu, range, zero, lost, flag⟩ := State.takeClose_track_loss hm he hn
      exact ⟨ftu, range, flag, lost, zero⟩
  case inHold =>
    exact State.takeClose_elsewhere hm nofun (Bool.eq_false_iff.mpr fun h => hn (test.mp h).2)
      (s.formAtClose_offered hm)
  case better => exact State.takeClose_follow hm (test.mpr ⟨hm, hb⟩)

end Sys2Proof.Machine
end

section
/-! PROOFS. The join frame (R86, R158, R160, R161): the boundary that begins it and its measurement close. -/

namespace Sys2Proof.Machine

/-! The close of a join frame -/

/-- The LISTEN procedure in a join frame makes the set request, if it has an index (R160). -/
theorem State.listenAtClose_joinFrame {s : State} (hj : s.joined = false) (hp : s.listen.phase = .joinFrame)
    (w : Option HeldWindow) : s.listenAtClose w = { s with ftu := { s.ftu with
      indexRequest := ((s.listen.joinIndex s.ftu.officeIndex).map IndexRequest.setTo).or s.ftu.indexRequest } } := by
  unfold State.listenAtClose
  rw [hj, hp]
  cases s.listen.joinIndex s.ftu.officeIndex <;> rfl

/-- In LISTEN the marks write the backoff alone (R147). -/
theorem State.marksAtClose_alone {s : State} (hj : s.joined = false) : s.marksAtClose.ftu = s.ftu := by
  rw [State.marksAtClose, hj, if_neg Bool.false_ne_true]
  split <;> rfl

section
variable {s : State} (hm : s.modes.mode = .listen) (hp : s.listen.phase = .joinFrame)
include hm hp

/-- The state of that close before its grade and its next windows. -/
theorem State.closeDone_joinFrame : s.closeDone.joined = false ∧ s.closeDone.listen = s.listen ∧
    s.closeDone.ftu.indexRequest =
      ((s.listen.joinIndex s.ftu.officeIndex).map IndexRequest.setTo).or s.ftu.indexRequest := by
  have marks : s.timedClose.SameMarks s := (State.closeModes_marks _ _).trans s.formAtClose_marks
  have alone : s.timedClose.joined = false := marks.joined.trans (by simp [State.joined, hm])
  have after : s.timedClose.marksAtClose.joined = false := (State.marksAtClose_joined _).trans alone
  have listen : s.timedClose.marksAtClose.listen = s.listen := by simp [State.timedClose]
  rw [State.closeDone, State.listenAtClose_joinFrame after (by rw [listen, hp]), listen,
    State.marksAtClose_alone alone, marks.index, marks.request]
  exact ⟨after, rfl, rfl⟩

/-- That close fixes wide windows for the first joined frame, with empty captures (R140, R161;
notes/assumptions/35.md). -/
theorem State.takeClose_joinFrame : s.takeClose.listen = s.listen ∧ s.takeClose.rail.width = .wide ∧
    s.takeClose.rail.caps = Captures.blank ∧ s.takeClose.ftu.indexRequest =
      ((s.listen.joinIndex s.ftu.officeIndex).map IndexRequest.setTo).or s.ftu.indexRequest := by
  obtain ⟨alone, listen, request⟩ := State.closeDone_joinFrame hm hp
  rw [State.takeClose_eq]
  generalize s.closeDone = x at alone listen request ⊢
  have wide : x.regrade.nextWidth = .wide := by
    have hj : x.regrade.joined = false := alone
    rw [State.nextWidth, hj, State.regrade_listen, listen, hp]
    rfl
  refine ⟨listen, wide, if_neg ?_, request⟩
  rw [wide]
  decide

end

/-- Settles O53: the boundary by what a pending request says of the station, the close by the mark count. -/
theorem joinFrame : Obligations.JoinFrame := by
  refine ⟨fun s ej o hr law ho => ?boundary, fun s hr hm hp => ?close⟩
  case boundary =>
    obtain ⟨u, hu, -, -, request, join, -⟩ := boundaryLength s ej hr
    obtain ⟨length, fraction⟩ := join o ho
    obtain rfl : s.takeBoundary ej = u := Host.Outcome.next.inj ((exec_officeBoundary hr ej).symm.trans hu)
    obtain ⟨listen, mode, window, pulses⟩ := State.takeBoundary_begins_join ej law (by rw [ho]; rfl)
    exact ⟨_, hu, listen, length, fraction, request, mode, window, pulses⟩
  case close =>
    obtain ⟨listen, width, caps, request⟩ := State.takeClose_joinFrame hm hp
    refine ⟨_, exec_measurementClose hr, fun k hc hk => ?_, fun hc => ?_, listen, width, caps⟩
    · rw [request, Listen.joinIndex, if_pos hc, hk]
      rfl
    · rw [request, Listen.joinIndex, if_neg (by omega)]
      rfl

end Sys2Proof.Machine
end

section
/-! PROOFS. Impairment and loss of a QUALIFIED reference (R107, R110, R111, R115, R127, R128): the two events that
impair it, the loss itself, and what the selector makes of the loss of the reference it follows. -/

namespace Sys2Proof.Machine

/-! The two reference events -/

section
variable {s : State} {r : RefId} (hr : s.running = true)
include hr

theorem exec_missingEdge (h : (s.monitor r).state ≠ .absent) :
    exec (.missingEdge r) s = .next (s.takeMissingEdge r) := by
  simp [exec, execMissingEdge, hr, h]

theorem exec_acceptedEdge (h : (s.monitor r).state ≠ .absent) (n : Nat) :
    exec (.acceptedEdge r n) s = .next (s.takeAcceptedEdge r n) := by
  simp [exec, execAcceptedEdge, hr, h]

end

section
variable (s : State) (r : RefId)

theorem State.offerNothing_eq : s.offerNothing r = { s with
    selector := if s.selector.selected = some r then { s.selector with offered := none } else s.selector } := by
  unfold State.offerNothing
  split <;> rfl

theorem State.offerEdge_eq (n : Nat) (i : Interval) : s.offerEdge r n i = { s with
    selector := if s.selector.selected = some r then s.selector.edge (s.edgePosition n) i else s.selector } := by
  unfold State.offerEdge
  split <;> rfl

/-- An edge with a bad interval offers nothing, and ends a pending build-out with its position (R117, R118;
notes/assumptions/20.md). -/
theorem Selector.edge_bad (x : Selector) (position : Int) : x.edge position .bad = { x with
    buildOut := if x.buildPending then position else x.buildOut
    buildPending := false
    offered := none } := by
  obtain ⟨_, _, pending, _⟩ := x
  cases pending <;> rfl

/-- A bad interval (R106). -/
theorem Monitor.interval_bad {m : Monitor} {n e : Nat} (he : m.lastEdge = some e)
    (h : n < e + 4092 ∨ e + 4100 < n) : m.interval n = .bad := by
  rw [Monitor.interval, he]
  exact if_neg (by omega)

/-- The loss falls within the flap window (R111). -/
theorem Monitor.flaps_iff (m : Monitor) (now : Stamp) : m.flaps now = true ↔ ∃ p, m.lastLoss = some p ∧
    8000 * ((now.seconds - p.seconds).toNat : Int) + (now.frame - p.frame : Int) < 4800000 := by
  unfold Monitor.flaps
  cases m.lastLoss with
  | none => simp
  | some p => simp [stampDistance, Config.flapFrames]

/-! The loss of a reference (R110, R111) -/

/-- The loss noted at the monitor, with its flap check. -/
def State.lossNoted : State :=
  let s1 := s.setMonitor r ((s.monitor r).lose.noteLoss s.stamp)
  if (s.monitor r).flaps s.stamp then s1.raise .flap else s1

theorem State.loseReference_eq : s.loseReference r =
    if s.selector.selected = some r then (s.lossNoted r).loseSelected r else s.lossNoted r := rfl

/-- Beside the monitor the note of a loss writes FLAP alone. -/
theorem State.lossNoted_beside :
    (s.lossNoted r).straps = s.straps ∧ (s.lossNoted r).selector = s.selector ∧ (s.lossNoted r).modes = s.modes ∧
    (s.lossNoted r).ftu = s.ftu ∧ (s.lossNoted r).counters = s.counters ∧ (s.lossNoted r).rail = s.rail ∧
    (s.lossNoted r).flags.refLoss = s.flags.refLoss ∧ (s.lossNoted r).flags.holdEntry = s.flags.holdEntry := by
  unfold State.lossNoted
  dsimp only
  split <;> simp [State.raise, Flags.raise]

theorem State.lossNoted_flap : (s.lossNoted r).flags.flap =
    if (s.monitor r).flaps s.stamp then s.flags.flap.raise else s.flags.flap := by
  unfold State.lossNoted
  dsimp only
  split <;> simp [State.raise, Flags.raise]

theorem State.lossNoted_monitor : (s.lossNoted r).monitor r = (s.monitor r).lose.noteLoss s.stamp := by
  have flagged (u : State) : (u.raise .flap).monitor r = u.monitor r := State.monitor_congr rfl rfl r
  unfold State.lossNoted
  dsimp only
  split <;> simp [flagged]

theorem State.lossNoted_other : (s.lossNoted r).monitor r.other = s.monitor r.other := by
  have flagged (u : State) : (u.raise .flap).monitor r.other = u.monitor r.other := State.monitor_congr rfl rfl _
  unfold State.lossNoted
  dsimp only
  split <;> simp [flagged]

end

/-! The loss of the selected reference (R115, R127, R128) -/

section
variable {s : State} {r : RefId}

/-- With the other reference QUALIFIED the selector switches, which of modes and rail writes the grade alone. -/
theorem State.loseSelected_switch (hq : (s.monitor r.other).state = .qualified) :
    (s.loseSelected r).selector =
      { s.selector with selected := some r.other, buildPending := true, offered := none } ∧
    (s.loseSelected r).modes = { s.modes with
      grade := gradeOf s.modes.mode s.ftu.gain (s.straps.refClass r.other) s.ftu.holdAge } ∧
    (s.loseSelected r).ftu = s.ftu ∧ (s.loseSelected r).rail = s.rail ∧
    (s.loseSelected r).counters = { s.counters with refSwitches := s.counters.refSwitches + 1 } ∧
    (s.loseSelected r).flags = s.flags.raise .refLoss := by
  rw [State.loseSelected, if_pos (State.qualified_iff _ |>.mpr hq)]
  exact ⟨rfl, rfl, rfl, rfl, rfl, rfl⟩

/-- With none left the station enters HOLD (R91, R92, R95, R128). -/
theorem State.loseSelected_hold (hq : (s.monitor r.other).state ≠ .qualified) :
    (s.loseSelected r).selector = { s.selector with selected := none, offered := none } ∧
    (s.loseSelected r).modes = { mode := .hold, grade := some 5, offsetRun := 0 } ∧
    (s.loseSelected r).ftu = { s.ftu.enterHold with settleRun := 0, excursionRun := 0 } ∧
    (s.loseSelected r).rail = { s.rail with leadAbsentRun := 0 } ∧
    (s.loseSelected r).counters = { s.counters with holdEntries := s.counters.holdEntries + 1 } ∧
    (s.loseSelected r).flags = (s.flags.raise .refLoss).raise .holdEntry := by
  rw [State.loseSelected, if_neg fun h => hq (State.qualified_iff _ |>.mp h)]
  exact ⟨rfl, rfl, rfl, rfl, rfl, rfl⟩

theorem State.loseSelected_flap : (s.loseSelected r).flags.flap = s.flags.flap := by
  by_cases hq : (s.monitor r.other).state = .qualified
  · obtain ⟨-, -, -, -, -, flags⟩ := State.loseSelected_switch hq
    rw [flags]
    rfl
  · obtain ⟨-, -, -, -, -, flags⟩ := State.loseSelected_hold hq
    rw [flags]
    rfl

/-- Whether selected or not, a lost reference goes to DOWN with the loss noted. -/
theorem State.loseReference_monitor :
    (s.loseReference r).monitor r = (s.monitor r).lose.noteLoss s.stamp := by
  rw [State.loseReference_eq, ← s.lossNoted_monitor]
  split
  · exact State.monitor_congr (by simp) (by simp) r
  · rfl

theorem State.loseReference_flap : (s.loseReference r).flags.flap =
    if (s.monitor r).flaps s.stamp then s.flags.flap.raise else s.flags.flap := by
  rw [State.loseReference_eq, ← s.lossNoted_flap]
  split
  · exact State.loseSelected_flap
  · rfl

/-- A loss writes of the rail the lead-absent run alone. -/
theorem State.loseReference_rail : (s.loseReference r).rail = { s.rail with
    leadAbsentRun := (s.loseReference r).rail.leadAbsentRun } := by
  obtain ⟨-, -, -, -, -, rail, -⟩ := s.lossNoted_beside r
  rw [State.loseReference_eq]
  split
  · by_cases hq : ((s.lossNoted r).monitor r.other).state = .qualified
    · obtain ⟨-, -, -, same, -⟩ := State.loseSelected_switch hq
      rw [same, rail]
    · obtain ⟨-, -, -, cleared, -⟩ := State.loseSelected_hold hq
      rw [cleared, rail]
  · rw [rail]

end

/-! The second impairment in a row -/

/-- x is the station s where reference r is about to be lost: r's monitor and, if r is selected, the selector have
taken the event, with last edge tick, build-out and pending mark as given. -/
structure State.LossDue (s x : State) (r : RefId) (last : Option Nat) (b : Int) (waits : Bool) : Prop where
  beside : ∃ (m : Monitor) (y : Selector), x = { s.setMonitor r m with selector := y }
  impairRun : (x.monitor r).impairRun = 1
  flap : (x.monitor r).flap = (s.monitor r).flap
  lastLoss : (x.monitor r).lastLoss = (s.monitor r).lastLoss
  lastEdge : (x.monitor r).lastEdge = last
  activity : (x.monitor r).activity = some 4608
  selector : x.selector = if s.selector.selected = some r then
    { s.selector with buildOut := b, buildPending := waits, offered := none } else s.selector

section
variable {s : State} {r : RefId}

theorem State.setMonitor_selector_monitor (m : Monitor) (y : Selector) :
    ({ s.setMonitor r m with selector := y } : State).monitor r = m := by cases r <;> rfl

theorem State.impair_first (h : (s.monitor r).impairRun = 0) :
    s.impair r = s.setMonitor r { s.monitor r with impairRun := 1 } := by
  rw [State.impair, h]
  rfl

theorem State.impair_second (h : (s.monitor r).impairRun = 1) : s.impair r = s.loseReference r := by
  rw [State.impair, h]
  rfl

theorem State.judgeInterval_bad (h : (s.monitor r).state = .qualified) :
    s.judgeInterval r .bad = s.impair r := by
  unfold State.judgeInterval
  dsimp only
  rw [h]

/-- At a missing edge (R107; notes/assumptions/20.md). -/
theorem State.takeMissingEdge_loss (hq : (s.monitor r).state = .qualified) (hi : (s.monitor r).impairRun = 1) :
    ∃ x : State, s.takeMissingEdge r = x.loseReference r ∧
      s.LossDue x r none s.selector.buildOut s.selector.buildPending := by
  obtain ⟨x, hx⟩ : ∃ x, x = (s.setMonitor r (s.monitor r).miss).offerNothing r := ⟨_, rfl⟩
  have eq := hx
  rw [State.offerNothing_eq, State.setMonitor_selector] at eq
  have monitor : x.monitor r = (s.monitor r).miss := by rw [eq, State.setMonitor_selector_monitor]
  have event : s.takeMissingEdge r = x.loseReference r := by
    rw [State.takeMissingEdge, hq, ← hx]
    exact State.impair_second (by rw [monitor]; exact hi)
  exact ⟨x, event,
    { beside := ⟨_, _, eq⟩
      impairRun := by rw [monitor]; exact hi
      flap := by rw [monitor]; rfl
      lastLoss := by rw [monitor]; rfl
      lastEdge := by rw [monitor]; rfl
      activity := by rw [monitor]; rfl
      selector := by rw [eq] }⟩

/-- At an accepted edge with a bad interval (R106, R110, R117). -/
theorem State.takeAcceptedEdge_loss {n e : Nat} (hq : (s.monitor r).state = .qualified)
    (hi : (s.monitor r).impairRun = 1) (he : (s.monitor r).lastEdge = some e) (hn : n < e + 4092 ∨ e + 4100 < n) :
    ∃ x : State, s.takeAcceptedEdge r n = x.loseReference r ∧
      s.LossDue x r (some n) (if s.selector.buildPending then s.edgePosition n else s.selector.buildOut) false := by
  obtain ⟨x, hx⟩ : ∃ x, x = (s.setMonitor r ((s.monitor r).accept n)).offerEdge r n .bad := ⟨_, rfl⟩
  have position : (s.setMonitor r ((s.monitor r).accept n)).edgePosition n = s.edgePosition n := by
    cases r <;> rfl
  have eq := hx
  rw [State.offerEdge_eq, Selector.edge_bad, State.setMonitor_selector, position] at eq
  have monitor : x.monitor r = (s.monitor r).accept n := by rw [eq, State.setMonitor_selector_monitor]
  have state : (x.monitor r).state = .qualified := by rw [monitor]; exact hq
  have event : s.takeAcceptedEdge r n = x.loseReference r := by
    have judged : s.takeAcceptedEdge r n = x.judgeInterval r .bad := by
      rw [hx, ← Monitor.interval_bad he hn]
      rfl
    rw [judged, State.judgeInterval_bad state, State.impair_second (by rw [monitor]; exact hi)]
  exact ⟨x, event,
    { beside := ⟨_, _, eq⟩
      impairRun := by rw [monitor]; exact hi
      flap := by rw [monitor]; rfl
      lastLoss := by rw [monitor]; rfl
      lastEdge := by rw [monitor]; rfl
      activity := by rw [monitor]; rfl
      selector := by rw [eq] }⟩

end

section
variable {s x : State} {r : RefId} {last : Option Nat} {b : Int} {waits : Bool}
  (due : s.LossDue x r last b waits)
include due

/-- The event that makes the loss has written monitor r and selector alone. -/
theorem State.LossDue.same : x.straps = s.straps ∧ x.modes = s.modes ∧ x.ftu = s.ftu ∧ x.counters = s.counters ∧
    x.rail = s.rail ∧ x.flags = s.flags ∧ x.selector.selected = s.selector.selected ∧
    x.monitor r.other = s.monitor r.other := by
  have selected : x.selector.selected = s.selector.selected := by
    rw [due.selector]
    split <;> rfl
  obtain ⟨⟨m, y, rfl⟩, -⟩ := due
  exact ⟨by simp, by simp, by simp, by simp, by simp, by simp, selected, s.monitor_setMonitor_other r m⟩

theorem State.LossDue.flaps : (x.monitor r).flaps x.stamp = (s.monitor r).flaps s.stamp := by
  obtain ⟨-, -, ftu, -⟩ := due.same
  rw [Monitor.flaps, due.lastLoss, State.stamp, ftu]
  rfl

theorem State.LossDue.sameBesideTiming : s.SameBesideTiming (x.loseReference r) := by
  obtain ⟨⟨m, y, rfl⟩, -⟩ := due
  constructor <;> simp

/-- The loss of a reference not selected. -/
theorem State.LossDue.unselected (hs : s.selector.selected ≠ some r) :
    (x.loseReference r).selector = s.selector ∧ (x.loseReference r).modes = s.modes ∧
    (x.loseReference r).ftu = s.ftu ∧ (x.loseReference r).counters = s.counters ∧
    (x.loseReference r).rail = s.rail ∧ (x.loseReference r).flags.refLoss = s.flags.refLoss := by
  obtain ⟨-, modes, ftu, counters, rail, flags, selected, -⟩ := due.same
  obtain ⟨-, selector', modes', ftu', counters', rail', flag', -⟩ := x.lossNoted_beside r
  rw [State.loseReference_eq, if_neg (selected ▸ hs), selector', modes', ftu', counters', rail', flag', modes, ftu,
    counters, rail, flags, due.selector, if_neg hs]
  exact ⟨rfl, rfl, rfl, rfl, rfl, rfl⟩

theorem State.LossDue.other : (x.lossNoted r).monitor r.other = s.monitor r.other := by
  obtain ⟨-, -, -, -, -, -, -, other⟩ := due.same
  rw [State.lossNoted_other, other]

/-- The monitor after the loss (R110, R111). -/
theorem State.LossDue.monitor : (x.loseReference r).monitor r = { x.monitor r with
    state := .down
    qualCount := 0
    impairRun := 0
    qualRun := 0
    flap := (s.monitor r).flap || (s.monitor r).flaps s.stamp
    lastLoss := some s.stamp } := by
  obtain ⟨-, -, ftu, -⟩ := due.same
  have stamp : x.stamp = s.stamp := by rw [State.stamp, ftu]; rfl
  rw [State.loseReference_monitor, ← due.flap, ← due.flaps, stamp]
  rfl

theorem State.LossDue.flapFlag : (x.loseReference r).flags.flap =
    if (s.monitor r).flaps s.stamp then s.flags.flap.raise else s.flags.flap := by
  obtain ⟨-, -, -, -, -, flags, -⟩ := due.same
  rw [State.loseReference_flap, due.flaps, flags]

theorem State.LossDue.otherMonitor : (x.loseReference r).monitor r.other = s.monitor r.other := by
  obtain ⟨-, -, -, -, -, -, -, other⟩ := due.same
  rw [State.loseReference_other, other]

theorem State.LossDue.rail :
    (x.loseReference r).rail = { s.rail with leadAbsentRun := (x.loseReference r).rail.leadAbsentRun } := by
  obtain ⟨-, -, -, -, rail, -⟩ := due.same
  rw [← rail]
  exact State.loseReference_rail

section
variable (hs : s.selector.selected = some r)
include hs

theorem State.LossDue.selected : x.loseReference r = (x.lossNoted r).loseSelected r := by
  obtain ⟨-, -, -, -, -, -, selected, -⟩ := due.same
  rw [State.loseReference_eq, if_pos (selected.trans hs)]

/-- The loss of the selected reference with the other QUALIFIED (R115, R127). -/
theorem State.LossDue.switched (hm : s.modes.mode = .anchor) (hq : (s.monitor r.other).state = .qualified) :
    (x.loseReference r).selector =
      { s.selector with selected := some r.other, buildOut := b, buildPending := true, offered := none } ∧
    (x.loseReference r).modes = { s.modes with grade := some (anchorGrade (s.straps.refClass r.other)) } ∧
    (x.loseReference r).ftu = s.ftu ∧ (x.loseReference r).rail = s.rail ∧
    (x.loseReference r).counters = { s.counters with refSwitches := s.counters.refSwitches + 1 } ∧
    (x.loseReference r).flags.refLoss = s.flags.refLoss.raise := by
  obtain ⟨straps, modes, ftu, counters, rail, flags, -⟩ := due.same
  obtain ⟨straps', selector', modes', ftu', counters', rail', flag', -⟩ := x.lossNoted_beside r
  obtain ⟨h1, h2, h3, h4, h5, h6⟩ := State.loseSelected_switch ((congrArg _ due.other).trans hq)
  rw [due.selected hs, h1, h2, h3, h4, h5, h6, selector', modes', ftu', counters', rail', straps', straps, modes, ftu,
    counters, rail, due.selector, if_pos hs, hm, gradeOf_anchor]
  exact ⟨rfl, rfl, rfl, rfl, rfl, congrArg Flag.raise (flag'.trans (congrArg Flags.refLoss flags))⟩

/-- The loss of the selected reference with none left (R115, R128). -/
theorem State.LossDue.held (hq : (s.monitor r.other).state ≠ .qualified) :
    (x.loseReference r).selector =
      { s.selector with selected := none, buildOut := b, buildPending := waits, offered := none } ∧
    (x.loseReference r).modes = { mode := .hold, grade := some 5, offsetRun := 0 } ∧
    (x.loseReference r).rail = { s.rail with leadAbsentRun := 0 } ∧
    (x.loseReference r).ftu = { s.ftu.enterHold with settleRun := 0, excursionRun := 0 } ∧
    (x.loseReference r).counters = { s.counters with holdEntries := s.counters.holdEntries + 1 } ∧
    (x.loseReference r).flags.holdEntry = s.flags.holdEntry.raise ∧
    (x.loseReference r).flags.refLoss = s.flags.refLoss.raise := by
  obtain ⟨-, -, ftu, counters, rail, flags, -⟩ := due.same
  obtain ⟨-, selector', -, ftu', counters', rail', loss', entry'⟩ := x.lossNoted_beside r
  obtain ⟨h1, h2, h3, h4, h5, h6⟩ := State.loseSelected_hold fun h => hq ((congrArg _ due.other).symm.trans h)
  rw [due.selected hs, h1, h2, h3, h4, h5, h6, selector', ftu', counters', rail', ftu, counters, rail, due.selector,
    if_pos hs]
  exact ⟨rfl, rfl, rfl, rfl, rfl, congrArg Flag.raise (entry'.trans (congrArg Flags.holdEntry flags)),
    congrArg Flag.raise (loss'.trans (congrArg Flags.refLoss flags))⟩

end

end

/-- A command that makes the second impairment in a row of a QUALIFIED reference is its loss. -/
theorem exec_loss {s : State} {r : RefId} {c : Instr} {last : Option Nat} {b : Int} {waits : Bool}
    (hr : s.running = true) (hq : (s.monitor r).state = .qualified) (hi : (s.monitor r).impairRun = 1)
    (hc : c = .missingEdge r ∧ last = none ∧ b = s.selector.buildOut ∧ waits = s.selector.buildPending ∨
      (∃ n e, c = .acceptedEdge r n ∧ (s.monitor r).lastEdge = some e ∧
        (n < e + 4092 ∨ e + 4100 < n) ∧ last = some n ∧ waits = false ∧
        b = if s.selector.buildPending then s.edgePosition n else s.selector.buildOut)) :
    ∃ x : State, exec c s = .next (x.loseReference r) ∧ s.LossDue x r last b waits := by
  have present : (s.monitor r).state ≠ .absent := by rw [hq]; decide
  rcases hc with ⟨rfl, rfl, rfl, rfl⟩ | ⟨n, e, rfl, he, hn, rfl, rfl, rfl⟩
  · obtain ⟨x, hx, due⟩ := State.takeMissingEdge_loss hq hi
    exact ⟨x, by rw [exec_missingEdge hr present, hx], due⟩
  · obtain ⟨x, hx, due⟩ := State.takeAcceptedEdge_loss hq hi he hn
    exact ⟨x, by rw [exec_acceptedEdge hr present, hx], due⟩

/-- Settles O36: the first impairment in equations; of the second, the loss as it stands at monitor and flags, then
what it makes of the selection. -/
theorem referenceLoss : Obligations.ReferenceLoss := by
  refine ⟨fun s r hr hq hi => ?first, fun s r c last b waits hr hq hi hc => ?second⟩
  case first =>
    have monitor (y : Selector) :
        ({ s.setMonitor r (s.monitor r).miss with selector := y } : State).monitor r = (s.monitor r).miss :=
      State.setMonitor_selector_monitor _ _
    rw [exec_missingEdge hr (by rw [hq]; decide), State.takeMissingEdge, hq, State.offerNothing_eq,
      State.setMonitor_selector, State.impair_first (by rw [monitor]; exact hi), monitor]
    cases r <;> rfl
  case second =>
    obtain ⟨x, hx, due⟩ := exec_loss hr hq hi hc
    have beside := due.sameBesideTiming
    have close := (s.monitor r).flaps_iff s.stamp
    refine ⟨_, hx, ?_⟩
    rw [due.monitor, due.flapFlag]
    refine ⟨due.otherMonitor, rfl, rfl, rfl, rfl, due.lastEdge, due.activity, rfl, ?flap,
      fun h => if_pos (close.mpr h), fun h => if_neg fun h' => h (close.mp h'), due.unselected,
      fun hs hm => ?selected, beside.tribs, beside.free, beside.maint, beside.out, beside.listen, due.rail⟩
    case flap => exact Bool.or_eq_true_iff.trans (or_congr Iff.rfl close)
    case selected =>
      by_cases hq' : (s.monitor r.other).state = .qualified
      · obtain ⟨selector, modes, ftu, rail, counters, loss⟩ := due.switched hs hm hq'
        exact ⟨loss, fun _ => ⟨selector, modes, ftu, rail, counters⟩, fun h => absurd hq' h⟩
      · obtain ⟨selector, modes, rail, ftu, counters, entry, loss⟩ := due.held hs hq'
        refine ⟨loss, fun h => absurd h hq', fun _ => ⟨selector, modes, rail, ?_, counters, entry⟩⟩
        rw [ftu, Ftu.enterHold, clampTo_eq (by decide)]
        rfl

end Sys2Proof.Machine
end

section
/-! PROOFS. The reference monitors and the selector (chapter 06): the class of a reference, what an edge does in each
state of its monitor, what a qualification selects, and the qualified run at a boundary. -/

namespace Sys2Proof.Machine

/-! The class of a reference (R102) -/

/-- The class that a strap code stands for (R102). -/
theorem Straps.refClass_of_code (p : Straps) (r : RefId) :
    (p.refCode r = 0b00#2 → p.refClass r = none) ∧ (p.refCode r = 0b01#2 → p.refClass r = some .classB) ∧
    (p.refCode r = 0b10#2 ∨ p.refCode r = 0b11#2 → p.refClass r = some .classA) := by
  unfold Straps.refClass
  generalize p.refCode r = code
  exact ⟨fun h => by rw [h]; rfl, fun h => by rw [h]; rfl, fun h => by rcases h with h | h <;> rw [h] <;> rfl⟩

/-- An ABSENT monitor takes no input (R102). -/
theorem exec_absent {s : State} {r : RefId} (h : (s.monitor r).state = .absent) :
    (∀ n, exec (.acceptedEdge r n) s = .next s) ∧ exec (.missingEdge r) s = .next s := by
  simp [exec, execAcceptedEdge, execMissingEdge, h]

/-- Settles O32: the strap's four codes, then the monitor of an unused reference. -/
theorem referenceClasses : Obligations.ReferenceClasses := by
  intro p r
  obtain ⟨unused, classB, classA⟩ := Straps.refClass_of_code p r
  exact ⟨unused, classB, fun h => classA (.inl h), fun h => classA (.inr h), fun s h => exec_absent h⟩

/-! The interval check and the qualification count (R106, R108, R109) -/

section
variable {m : Monitor}

/-- A good interval is 4092 to 4100 ticks (R106). -/
theorem Monitor.interval_good {n e : Nat} (he : m.lastEdge = some e) (h1 : e + 4092 ≤ n) (h2 : n ≤ e + 4100) :
    m.interval n = .good := by
  rw [Monitor.interval, he]
  exact if_pos (by omega)

theorem Monitor.interval_absent (he : m.lastEdge = none) (n : Nat) : m.interval n = .absent := by
  rw [Monitor.interval, he]

/-- Short of Q a good interval raises the count (R109). -/
theorem Monitor.countGood_below (hm : m.state = .qualifying) (h : m.qualCount + 1 < m.period) :
    m.countGood = { m with qualCount := m.qualCount + 1 } := by
  rw [Monitor.countGood, if_neg h.not_ge, ← hm]

/-- At Q it makes the monitor QUALIFIED (R109). -/
theorem Monitor.countGood_full (h : m.qualCount + 1 = m.period) : m.countGood =
    { m with state := .qualified, qualCount := m.period, impairRun := 0, qualRun := 0 } := by
  rw [Monitor.countGood, if_pos h.ge]

end

/-! What an interval does in each state of the monitor (R108 to R110) -/

section
variable {s : State} {r : RefId}

/-- An edge without an interval moves no monitor. -/
theorem State.judgeInterval_absent : s.judgeInterval r .absent = s := by
  unfold State.judgeInterval
  dsimp only
  cases (s.monitor r).state <;> rfl

theorem State.judgeInterval_down_good (h : (s.monitor r).state = .down) :
    s.judgeInterval r .good = s.setMonitor r { s.monitor r with state := .qualifying, qualCount := 1 } := by
  unfold State.judgeInterval
  dsimp only
  rw [h]

theorem State.judgeInterval_down_bad (h : (s.monitor r).state = .down) : s.judgeInterval r .bad = s := by
  unfold State.judgeInterval
  dsimp only
  rw [h]

theorem State.judgeInterval_qualifying_good (h : (s.monitor r).state = .qualifying) : s.judgeInterval r .good =
    if (s.monitor r).countGood.state = .qualified then (s.setMonitor r (s.monitor r).countGood).noteQualified
    else s.setMonitor r (s.monitor r).countGood := by
  unfold State.judgeInterval
  dsimp only
  rw [h]

theorem State.judgeInterval_qualifying_bad (h : (s.monitor r).state = .qualifying) :
    s.judgeInterval r .bad = s.setMonitor r (s.monitor r).toDown := by
  unfold State.judgeInterval
  dsimp only
  rw [h]

theorem State.judgeInterval_qualified_good (h : (s.monitor r).state = .qualified) :
    s.judgeInterval r .good = s.setMonitor r { s.monitor r with impairRun := 0 } := by
  unfold State.judgeInterval
  dsimp only
  rw [h]

end

/-! An edge before its interval is judged (R104, R107, R117, R118) -/

section
variable {s : State} {r : RefId} {n : Nat} {i : Interval}

/-- The station that has accepted an edge of reference r, the selector having taken it. -/
def State.edgeTaken (s : State) (r : RefId) (n : Nat) (i : Interval) : State :=
  (s.setMonitor r ((s.monitor r).accept n)).offerEdge r n i

theorem State.takeAcceptedEdge_eq (h : (s.monitor r).interval n = i) :
    s.takeAcceptedEdge r n = (s.edgeTaken r n i).judgeInterval r i := by
  rw [← h]
  rfl

theorem State.edgeTaken_eq : s.edgeTaken r n i = { s.setMonitor r ((s.monitor r).accept n) with
    selector := if s.selector.selected = some r then s.selector.edge (s.edgePosition n) i else s.selector } := by
  have position (m : Monitor) : (s.setMonitor r m).edgePosition n = s.edgePosition n := by cases r <;> rfl
  rw [State.edgeTaken, State.offerEdge_eq, State.setMonitor_selector, position]

@[simp] theorem State.edgeTaken_monitor : (s.edgeTaken r n i).monitor r = (s.monitor r).accept n := by
  rw [State.edgeTaken_eq, State.setMonitor_selector_monitor]

/-- Judging the interval writes the monitor once more. -/
theorem State.edgeTaken_setMonitor (m : Monitor) : (s.edgeTaken r n i).setMonitor r m = { s.setMonitor r m with
    selector := if s.selector.selected = some r then s.selector.edge (s.edgePosition n) i else s.selector } := by
  rw [State.edgeTaken_eq]
  cases r <;> rfl

variable (hs : s.selector.selected ≠ some r)
include hs

theorem State.edgeTaken_unselected : s.edgeTaken r n i = s.setMonitor r ((s.monitor r).accept n) := by
  rw [State.edgeTaken, State.offerEdge, State.setMonitor_selector, if_neg hs]

theorem State.offerNothing_unselected (m : Monitor) : (s.setMonitor r m).offerNothing r = s.setMonitor r m := by
  rw [State.offerNothing, State.setMonitor_selector, if_neg hs]

/-- The edge that completes Q of a reference not selected: QUALIFIED, and the selector evaluated (R109, R114). -/
theorem State.takeAcceptedEdge_qualifies {e : Nat} (hq : (s.monitor r).state = .qualifying)
    (he : (s.monitor r).lastEdge = some e) (h1 : e + 4092 ≤ n) (h2 : n ≤ e + 4100)
    (hn : (s.monitor r).qualCount + 1 = (s.monitor r).period) :
    s.takeAcceptedEdge r n = (s.setMonitor r { (s.monitor r).accept n with
      state := .qualified, qualCount := (s.monitor r).period, impairRun := 0, qualRun := 0 }).noteQualified := by
  have counted : ((s.monitor r).accept n).countGood = { (s.monitor r).accept n with
      state := .qualified, qualCount := (s.monitor r).period, impairRun := 0, qualRun := 0 } :=
    Monitor.countGood_full (m := (s.monitor r).accept n) hn
  rw [State.takeAcceptedEdge_eq (Monitor.interval_good he h1 h2), State.edgeTaken_unselected hs,
    State.judgeInterval_qualifying_good (by rw [State.monitor_setMonitor_same]; exact hq),
    State.monitor_setMonitor_same, counted, if_pos rfl, State.setMonitor_setMonitor]

end

/-- The evaluation of the selector leaves both monitors. -/
theorem State.noteQualified_monitor (s : State) (r : RefId) : s.noteQualified.monitor r = s.monitor r :=
  State.monitor_congr (by simp) (by simp) r

section
variable {s : State} {r : RefId} (hr : s.running = true) (hs : s.selector.selected ≠ some r) (n : Nat)
include hr hs

/-- Edges of a reference in DOWN (R107, R108). -/
theorem exec_edge_down (hm : (s.monitor r).state = .down) :
    ((s.monitor r).interval n = .good → exec (.acceptedEdge r n) s =
      .next (s.setMonitor r { (s.monitor r).accept n with state := .qualifying, qualCount := 1 })) ∧
    ((s.monitor r).interval n = .bad ∨ (s.monitor r).interval n = .absent →
      exec (.acceptedEdge r n) s = .next (s.setMonitor r ((s.monitor r).accept n))) ∧
    exec (.missingEdge r) s = .next (s.setMonitor r (s.monitor r).miss) := by
  have present : (s.monitor r).state ≠ .absent := by rw [hm]; decide
  have taken : ((s.setMonitor r ((s.monitor r).accept n)).monitor r).state = .down := by
    rw [State.monitor_setMonitor_same]
    exact hm
  refine ⟨fun hi => ?good, fun hi => ?other, ?missing⟩
  case good =>
    rw [exec_acceptedEdge hr present, State.takeAcceptedEdge_eq hi, State.edgeTaken_unselected hs,
      State.judgeInterval_down_good taken, State.monitor_setMonitor_same, State.setMonitor_setMonitor]
  case other =>
    rw [exec_acceptedEdge hr present]
    rcases hi with hi | hi
    · rw [State.takeAcceptedEdge_eq hi, State.edgeTaken_unselected hs, State.judgeInterval_down_bad taken]
    · rw [State.takeAcceptedEdge_eq hi, State.edgeTaken_unselected hs, State.judgeInterval_absent]
  case missing =>
    rw [exec_missingEdge hr present, State.takeMissingEdge, hm]
    exact congrArg _ (State.offerNothing_unselected hs _)

/-- Edges of a reference in QUALIFYING that leave it short of Q (R107 to R109). -/
theorem exec_edge_qualifying (hm : (s.monitor r).state = .qualifying) :
    ((s.monitor r).interval n = .good → (s.monitor r).qualCount + 1 < (s.monitor r).period →
      exec (.acceptedEdge r n) s =
        .next (s.setMonitor r { (s.monitor r).accept n with qualCount := (s.monitor r).qualCount + 1 })) ∧
    ((s.monitor r).interval n = .bad →
      exec (.acceptedEdge r n) s = .next (s.setMonitor r ((s.monitor r).accept n).toDown)) ∧
    ((s.monitor r).interval n = .absent →
      exec (.acceptedEdge r n) s = .next (s.setMonitor r ((s.monitor r).accept n))) ∧
    exec (.missingEdge r) s = .next (s.setMonitor r (s.monitor r).miss.toDown) := by
  have present : (s.monitor r).state ≠ .absent := by rw [hm]; decide
  have taken : ((s.setMonitor r ((s.monitor r).accept n)).monitor r).state = .qualifying := by
    rw [State.monitor_setMonitor_same]
    exact hm
  refine ⟨fun hi hn => ?good, fun hi => ?bad, fun hi => ?absent, ?missing⟩
  case good =>
    have counted : ((s.monitor r).accept n).countGood =
        { (s.monitor r).accept n with qualCount := (s.monitor r).qualCount + 1 } :=
      Monitor.countGood_below (m := (s.monitor r).accept n) hm hn
    have short : (s.monitor r).state ≠ .qualified := by rw [hm]; decide
    rw [exec_acceptedEdge hr present, State.takeAcceptedEdge_eq hi, State.edgeTaken_unselected hs,
      State.judgeInterval_qualifying_good taken, State.monitor_setMonitor_same, counted, if_neg,
      State.setMonitor_setMonitor]
    exact short
  case bad =>
    rw [exec_acceptedEdge hr present, State.takeAcceptedEdge_eq hi, State.edgeTaken_unselected hs,
      State.judgeInterval_qualifying_bad taken, State.monitor_setMonitor_same, State.setMonitor_setMonitor]
  case absent =>
    rw [exec_acceptedEdge hr present, State.takeAcceptedEdge_eq hi, State.edgeTaken_unselected hs,
      State.judgeInterval_absent]
  case missing =>
    rw [exec_missingEdge hr present, State.takeMissingEdge, hm, State.offerNothing_unselected hs]
    dsimp only
    rw [State.monitor_setMonitor_same, State.setMonitor_setMonitor]

end

/-- Settles O33: the edges of DOWN, then those of QUALIFYING with the one that completes Q. -/
theorem earningTrust : Obligations.EarningTrust := by
  intro s r n hr hs
  dsimp only
  have good (h : ∃ e, (s.monitor r).lastEdge = some e ∧ e + 4092 ≤ n ∧ n ≤ e + 4100) :
      (s.monitor r).interval n = .good := by
    obtain ⟨e, he, h1, h2⟩ := h
    exact Monitor.interval_good he h1 h2
  have bad (h : ∃ e, (s.monitor r).lastEdge = some e ∧ ¬ (e + 4092 ≤ n ∧ n ≤ e + 4100)) :
      (s.monitor r).interval n = .bad := by
    obtain ⟨e, he, h⟩ := h
    exact Monitor.interval_bad he (by omega)
  have absent (h : (s.monitor r).lastEdge = none) : (s.monitor r).interval n = .absent := Monitor.interval_absent h n
  refine ⟨fun hm => ?down, fun hm => ?qualifying⟩
  case down =>
    obtain ⟨counts, stays, missing⟩ := exec_edge_down hr hs n hm
    exact ⟨fun h => counts (good h), fun h => stays (h.imp bad absent), missing⟩
  case qualifying =>
    obtain ⟨counts, falls, stays, missing⟩ := exec_edge_qualifying hr hs n hm
    refine ⟨fun h hn => counts (good h) hn, fun ⟨e, he, h1, h2⟩ hn => ?_, fun h => falls (bad h),
      fun h => stays (absent h), missing⟩
    refine ⟨_, (exec_acceptedEdge hr (by rw [hm]; decide) n).trans
      (congrArg _ (State.takeAcceptedEdge_qualifies hs hm he h1 h2 hn)), ?_, ?_⟩
    · rw [State.noteQualified_monitor, State.monitor_setMonitor_same]
      rfl
    · rw [State.noteQualified_monitor, State.monitor_setMonitor_other]

/-! What a qualification selects (R114, R117, R126, R127) -/

section
variable {s : State} {r : RefId}

/-- Only one reference QUALIFIED is the one chosen. -/
theorem State.choice_alone (hq : (s.monitor r).state = .qualified) (ho : (s.monitor r.other).state ≠ .qualified) :
    s.choice = some r := by
  cases r with
  | refA => exact State.choice_refA hq (.inl ho)
  | refB => exact State.choice_refB hq (.inl ho)

/-- In LISTEN nothing is selected. -/
theorem State.noteQualified_listening (h : s.modes.mode = .listen) : s.noteQualified = s := by
  rw [State.noteQualified, if_neg (by simp [State.joined, h])]

theorem State.noteQualified_joined (h : s.modes.mode ≠ .listen) : s.noteQualified = s.evaluateSelector := by
  rw [State.noteQualified, if_pos (by simp [State.joined, h])]

theorem State.evaluateSelector_first (hs : s.selector.selected = none) (hc : s.choice = some r) :
    s.evaluateSelector = s.firstSelection r := by
  unfold State.evaluateSelector
  rw [hs, hc]

/-- With the other reference selected, the selector switches to a QUALIFIED one exactly if it is of better class. -/
theorem State.evaluateSelector_other (hs : s.selector.selected = some r.other) (hq : (s.monitor r).state = .qualified) :
    s.evaluateSelector = if s.straps.betterRef r r.other then s.switchTo r else s := by
  unfold State.evaluateSelector
  rw [hs]
  dsimp only
  rw [RefId.other_other, (State.qualified_iff _).mpr hq, Bool.true_and]

/-- What a first selection writes (R114, R117, R126, R144). -/
theorem State.firstSelection_writes : (s.firstSelection r).selector =
      { s.selector with selected := some r, buildPending := true, offered := none } ∧
    (s.firstSelection r).modes =
      { mode := .anchor, offsetRun := 0, grade := some (anchorGrade (s.straps.refClass r)) } ∧
    (s.firstSelection r).ftu = { s.ftu with settleRun := 0, excursionRun := 0 } ∧
    (s.firstSelection r).counters = s.counters ∧ (s.firstSelection r).rail = { s.rail with leadAbsentRun := 0 } :=
  ⟨rfl, congrArg (ModeMachine.mk .anchor · 0) (gradeOf_anchor ..), rfl, rfl, rfl⟩

/-- What a switch in ANCHOR writes (R114, R127). -/
theorem State.switchTo_writes (hm : s.modes.mode = .anchor) : (s.switchTo r).selector =
      { s.selector with selected := some r, buildPending := true, offered := none } ∧
    (s.switchTo r).modes = { s.modes with grade := some (anchorGrade (s.straps.refClass r)) } ∧
    (s.switchTo r).ftu = s.ftu ∧ (s.switchTo r).rail = s.rail ∧
    (s.switchTo r).counters = { s.counters with refSwitches := s.counters.refSwitches + 1 } := by
  refine ⟨rfl, ?_, rfl, rfl, rfl⟩
  have grade := gradeOf_anchor s.ftu.gain (s.straps.refClass r) s.ftu.holdAge
  rw [← hm] at grade
  exact congrArg (fun g => { s.modes with grade := g }) grade

end

/-- Settles O34: the qualified monitor set, the selector's evaluation by mode and selection. -/
theorem qualification : Obligations.Qualification := by
  intro s r n e hr hm he h1 h2 hn hs
  refine ⟨_, (exec_acceptedEdge hr (by rw [hm]; decide) n).trans
    (congrArg _ (State.takeAcceptedEdge_qualifies hs hm he h1 h2 hn)), ?_⟩
  generalize monitor_eq : ({ (s.monitor r).accept n with
    state := .qualified, qualCount := (s.monitor r).period, impairRun := 0, qualRun := 0 } : Monitor) = m
  have hq : ((s.setMonitor r m).monitor r).state = .qualified := by rw [State.monitor_setMonitor_same, ← monitor_eq]
  refine ⟨by simp, fun hl => ?listen, fun hj hn ho => ?first, fun ha hb => ?other⟩
  case listen =>
    rw [State.noteQualified_listening (by simpa using hl)]
    simp
  case first =>
    rw [State.noteQualified_joined (by simpa using hj), State.evaluateSelector_first (by simpa using hn)
      (State.choice_alone hq (by rwa [State.monitor_setMonitor_other]))]
    simpa [anchorGrade] using (s.setMonitor r m).firstSelection_writes (r := r)
  case other =>
    rw [State.noteQualified_joined (by simp [ha]), State.evaluateSelector_other (by simpa using hb) hq,
      State.setMonitor_straps, ← Straps.betterRef_iff]
    refine ⟨fun better => ?_, fun worse => ?_⟩
    · rw [if_pos better]
      have classA := ((Straps.betterRef_iff s.straps r r.other).mp better).1
      simpa [classA, anchorGrade] using (s.setMonitor r m).switchTo_writes (r := r) (by simpa using ha)
    · rw [if_neg worse]
      simp

/-! Edges of a QUALIFIED reference (R105, R110, R117, R118) -/

/-- The position of an edge in the frame in progress, or up to seven ticks before its boundary (R105;
notes/assumptions/33.md). -/
theorem State.edgePosition_eq {s : State} {n : Nat} {pos : Int}
    (h : (∃ t, n = s.ftu.frameStart + t ∧ t < s.ftu.length ∧
        pos = if t ≤ 2047 then (t : Int) else max (-2048) ((t : Int) - s.ftu.length)) ∨
      (∃ k : Nat, 1 ≤ k ∧ k ≤ 7 ∧ n + k = s.ftu.frameStart ∧ pos = -k)) : s.edgePosition n = pos := by
  unfold State.edgePosition Machine.edgePosition
  dsimp only
  rcases h with ⟨t, hn, hl, rfl⟩ | ⟨k, h1, h7, hn, rfl⟩
  · (repeat' split) <;> omega
  · (repeat' split) <;> omega

/-- A difference taken the short way round the frame (R118). -/
theorem shortWay_eq {x d : Int} (h : d = x ∧ -2048 ≤ d ∧ d ≤ 2047 ∨ d = x - 4096 ∧ 2047 < x ∨
    d = x + 4096 ∧ x < -2048) : shortWay x = d := by
  unfold shortWay
  (repeat' split) <;> omega

/-- What the selector makes of an edge of the selected reference, by the interval (R117, R118). -/
theorem Selector.edge_eq (x : Selector) (position : Int) (i : Interval) : x.edge position i =
    if x.buildPending then
      { x with buildOut := position, buildPending := false, offered := if i = .good then some 0 else none }
    else { x with offered := if i = .good then some (offeredError position x.buildOut) else none } := rfl

/-- Settles O35: the three intervals, each with what it writes to the monitor, and the selector's edge. -/
theorem selectedEdge : Obligations.SelectedEdge := by
  intro s r n pos d hr hm hpos hd
  have position := State.edgePosition_eq hpos
  have offer : offeredError pos s.selector.buildOut = max (-512) (min 512 (2 * d)) := by
    rw [offeredError, shortWay_eq hd, clampTo_maxError]
  have event := exec_acceptedEdge hr (r := r) (by rw [hm]; decide) n
  have taken (i : Interval) : ((s.edgeTaken r n i).monitor r).state = .qualified := by
    rw [State.edgeTaken_monitor]
    exact hm
  dsimp only
  refine ⟨fun e he h1 h2 => ?good, fun he => ?absent, fun e he hb hi => ?bad⟩
  case good =>
    rw [event, State.takeAcceptedEdge_eq (Monitor.interval_good he h1 h2),
      State.judgeInterval_qualified_good (taken _), State.edgeTaken_setMonitor, State.edgeTaken_monitor, position,
      Selector.edge_eq, offer]
    rfl
  case absent =>
    rw [event, State.takeAcceptedEdge_eq (Monitor.interval_absent he n), State.judgeInterval_absent,
      State.edgeTaken_eq, position]
    rfl
  case bad =>
    rw [event, State.takeAcceptedEdge_eq (Monitor.interval_bad he hb), State.judgeInterval_bad (taken _),
      State.impair_first (by rw [State.edgeTaken_monitor]; exact hi), State.edgeTaken_setMonitor,
      State.edgeTaken_monitor, position]
    rfl

/-! The qualified run (R112) -/

theorem State.monitorsBoundary_monitor (s : State) (r : RefId) :
    s.monitorsBoundary.monitor r = (s.monitor r).boundary := by cases r <;> rfl

/-- Whatever order is chosen, a boundary does each monitor's own work, once (R112, R169). -/
theorem State.takeBoundary_monitor (s : State) (ej : Bool) (r : RefId) :
    (s.takeBoundary ej).monitor r = (s.monitor r).boundary := by
  have kept {f : State → State} (ha : ∀ s, (f s).monA = s.monA) (hb : ∀ s, (f s).monB = s.monB) (s : State) :
      (f s).monitor r = s.monitor r := State.monitor_congr (ha s) (hb s) r
  have finish (s : State) (n : Nat) :
      ({ s.driveOutputs 0 with railDue := true, choiceSeq := n } : State).monitor r = s.monitor r :=
    State.monitor_congr (by simp) (by simp) r
  have readout (b : Bool) (s : State) : (applyWhen b State.readoutBoundary s).monitor r = s.monitor r :=
    applyWhen_reading (r := (State.monitor · r)) (kept (by simp) (by simp)) b s
  have station (b ej begins early : Bool) (s : State) :
      (applyWhen b (fun s => s.stationBoundary ej begins early) s).monitor r = s.monitor r :=
    applyWhen_reading (r := (State.monitor · r)) (kept (by simp) (by simp)) b s
  have page := kept (f := State.pageBoundary) (by simp) (by simp)
  have start : s.boundaryStart.monitor r = s.monitor r := by
    unfold State.boundaryStart
    cases (s.listen.withdrawRequest && Config.withdrawBeforeFtu s.choiceSeq) <;>
      exact State.monitor_congr (by simp) (by simp) r
  rw [State.takeBoundary_reading (r := (State.monitor · r)) finish, State.blocksDone, State.afterPage, readout,
    State.othersWork, station]
  cases h : Config.monitorsBeforePage s.choiceSeq with
  | false =>
    rw [Bool.not_false, applyWhen_true, State.monitorsBoundary_monitor, page, State.atPage, State.beforePage, readout,
      State.othersWork, station, h, applyWhen_false, start]
  | true =>
    rw [Bool.not_true, applyWhen_false, page, State.atPage, State.beforePage, readout, State.othersWork, station, h,
      applyWhen_true, State.monitorsBoundary_monitor, start]

theorem Monitor.boundary_unqualified {m : Monitor} (h : m.state ≠ .qualified) : m.boundary = m := if_neg h

/-- The run rises to at most 4,800,000, where it sheds the flap mark. -/
theorem Monitor.boundary_qualified {m : Monitor} (h : m.state = .qualified) : m.boundary = { m with
    qualRun := min 4800000 (m.qualRun + 1)
    flap := m.flap && decide (min 4800000 (m.qualRun + 1) ≠ 4800000) } := by
  rw [Monitor.boundary, if_pos h, satSucc_eq_min]
  rfl

/-- Settles O37, by whether the run is short of 4,799,999. -/
theorem qualifiedRun : Obligations.QualifiedRun := by
  intro s ej r hr
  refine ⟨_, exec_officeBoundary hr ej, ?_⟩
  rw [State.takeBoundary_monitor]
  refine ⟨Monitor.boundary_unqualified, fun hm => ?_⟩
  rw [Monitor.boundary_qualified hm]
  refine ⟨fun h => ?short, fun h => ?full⟩
  case short =>
    rw [min_eq_right (by omega), decide_eq_true (by omega), Bool.and_true]
  case full =>
    rw [min_eq_left (by omega), decide_eq_false (by simp), Bool.and_false]

end Sys2Proof.Machine
end

section
/-! PROOFS. The mode law (R114, R121, R122, R126, R138, R157, R163): how mode, selection, grade and LISTEN procedure
fit together is kept by every step. A joined station meets it with its procedure at rest, a listening one with
nothing selected, graded or driven; each block's work is shown to keep one of the two. -/

namespace Sys2Proof.Machine

/-! What the mode law reads -/

/-- Two states show the same in all that the mode law speaks of. -/
structure State.SameModes (s u : State) : Prop where
  running : u.running = s.running
  mode : u.modes.mode = s.modes.mode
  grade : u.modes.grade = s.modes.grade
  selected : u.selector.selected = s.selector.selected
  monitors : ∀ r, (u.monitor r).state = (s.monitor r).state
  phase : u.listen.phase = s.listen.phase
  withdrawn : u.listen.withdrawn = s.listen.withdrawn
  withdrawRequest : u.listen.withdrawRequest = s.listen.withdrawRequest
  joinRequest : u.ftu.joinRequest = s.ftu.joinRequest
  drivingLead : u.rail.drivingLead = s.rail.drivingLead
  drivenGrade : u.rail.drivenGrade = s.rail.drivenGrade

theorem State.ModeLaw.congr {s u : State} (law : s.ModeLaw) (h : s.SameModes u) : u.ModeLaw := by
  obtain ⟨running, mode, grade, selected, monitors, phase, withdrawn, request, join, lead, driven⟩ := h
  constructor
  · rw [mode, selected]; exact law.anchor
  · intro r; rw [selected, monitors]; exact law.qualified r
  · rw [mode, grade]; exact law.listening
  · rw [mode, grade]; exact law.grade
  · rw [mode, phase]; exact law.phase
  · rw [join, phase]; exact law.request
  · rw [withdrawn, mode, phase]; exact law.withdrawn
  · rw [request, phase]; exact law.noJoin
  · rw [mode, lead, driven]; exact law.drive
  · rw [running, mode, phase, withdrawn, request]; exact law.reset

section
variable {s u w : State}

theorem State.SameModes.trans (h : s.SameModes u) (g : u.SameModes w) : s.SameModes w :=
  ⟨g.1.trans h.1, g.2.trans h.2, g.3.trans h.3, g.4.trans h.4, fun r => (g.5 r).trans (h.5 r), g.6.trans h.6,
    g.7.trans h.7, g.8.trans h.8, g.9.trans h.9, g.10.trans h.10, g.11.trans h.11⟩

/-- A change that leaves whole all the blocks of which the mode law speaks. -/
theorem State.SameModes.of_blocks (hp : u.pins.rstn = s.pins.rstn) (hm : u.modes = s.modes)
    (hx : u.selector.selected = s.selector.selected) (ha : u.monA.state = s.monA.state)
    (hb : u.monB.state = s.monB.state) (hl : u.listen = s.listen) (hj : u.ftu.joinRequest = s.ftu.joinRequest)
    (hd : u.rail.drivingLead = s.rail.drivingLead) (hg : u.rail.drivenGrade = s.rail.drivenGrade) :
    s.SameModes u where
  running := hp
  mode := congrArg _ hm
  grade := congrArg _ hm
  selected := hx
  monitors r := by cases r <;> assumption
  phase := congrArg _ hl
  withdrawn := congrArg _ hl
  withdrawRequest := congrArg _ hl
  joinRequest := hj
  drivingLead := hd
  drivenGrade := hg

theorem State.SameModes.refl (s : State) : s.SameModes s := .of_blocks rfl rfl rfl rfl rfl rfl rfl rfl rfl

/-- The station's blocks hold all that the mode law reads. -/
theorem State.SameStation.sameModes (h : u.SameStation s) : s.SameModes u :=
  .of_blocks (congrArg _ h.pins) h.modes (congrArg _ h.selector) h.stateA h.stateB h.listen (congrArg _ h.ftu)
    (congrArg _ h.rail) (congrArg _ h.rail)

end

/-! The law of a joined station, and of one in LISTEN -/

theorem State.joined_iff (s : State) : s.joined = true ↔ s.modes.mode ≠ .listen := by simp [State.joined]

theorem State.joined_eq_false_iff (s : State) : s.joined = false ↔ s.modes.mode = .listen := by simp [State.joined]

/-- A station out of reset whose LISTEN procedure is at rest, as that of every joined station is. -/
structure State.AtRest (s : State) : Prop where
  running : s.running = true
  phase : s.listen.phase = .running
  withdrawn : s.listen.withdrawn = false
  joinRequest : s.ftu.joinRequest = none

theorem State.ModeLaw.atRest {s : State} (law : s.ModeLaw) (hj : s.modes.mode ≠ .listen) : s.AtRest := by
  have phase : s.listen.phase = .running := not_imp_comm.mp law.phase hj
  refine ⟨?_, phase, ?_, ?_⟩
  · by_contra h
    exact hj (law.reset (Bool.eq_false_iff.mpr h)).1
  · by_contra h
    exact hj (law.withdrawn (Bool.not_eq_false _ ▸ h)).1
  · by_contra h
    have pending := law.request (Option.isSome_iff_ne_none.mpr h)
    rw [phase] at pending
    cases pending

/-- Outside ANCHOR no reference is selected. -/
theorem State.ModeLaw.unselected {s : State} (law : s.ModeLaw) (hm : s.modes.mode ≠ .anchor) :
    s.selector.selected = none := by
  simpa using mt law.anchor.mpr hm

/-- No join request is left where none is pending. -/
theorem State.ModeLaw.unrequested {s : State} (law : s.ModeLaw) (hp : s.listen.phase ≠ .joinPending) :
    s.ftu.joinRequest = none := by
  simpa using mt law.request hp

/-- A joined mode with its selection and grade, over a procedure at rest, makes the law. -/
theorem State.AtRest.modeLaw {u : State} {m : Mode} (rest : u.AtRest) (mode : u.modes.mode = m) (hj : m ≠ .listen)
    (anchor : m = .anchor ↔ u.selector.selected.isSome = true)
    (qualified : ∀ r, u.selector.selected = some r → (u.monitor r).state = .qualified)
    (grade : ∃ g, u.modes.grade = some g ∧ 1 ≤ g ∧ g ≤ 7) : u.ModeLaw := by
  obtain ⟨running, phase, withdrawn, request⟩ := rest
  subst mode
  exact
    { anchor := anchor
      qualified := qualified
      listening := fun h => absurd h hj
      grade := fun _ => grade
      phase := fun h => absurd phase h
      request := fun h => by rw [request] at h; cases h
      withdrawn := fun h => nomatch withdrawn.symm.trans h
      noJoin := fun _ => by rw [phase]; decide
      drive := fun h => absurd h hj
      reset := fun h => nomatch running.symm.trans h }

/-- A joined mode has a grade between 1 and 7 (R122). -/
theorem gradeOf_range {m : Mode} (hm : m ≠ .listen) (g : GainSet) (cls : Option RefClass) (age : Nat) :
    ∃ k, gradeOf m g cls age = some k ∧ 1 ≤ k ∧ k ≤ 7 := by
  unfold gradeOf
  cases m with
  | listen => exact absurd rfl hm
  | track => cases g <;> exact ⟨_, rfl, by decide⟩
  | anchor => dsimp only; split <;> exact ⟨_, rfl, by decide⟩
  | hold => dsimp only; (repeat' split) <;> exact ⟨_, rfl, by decide⟩

/-! Changes of mode and selection that end in a joined mode (R114, R126 to R129) -/

section
variable {s : State} {r : RefId} (rest : s.AtRest)
include rest

/-- A change to a joined mode that fits the selection. -/
theorem State.AtRest.changeMode {m : Mode} (hj : m ≠ .listen)
    (anchor : m = .anchor ↔ s.selector.selected.isSome = true)
    (qualified : ∀ r, s.selector.selected = some r → (s.monitor r).state = .qualified) : (s.changeMode m).ModeLaw :=
  have rest' : (s.changeMode m).AtRest := { rest with }
  rest'.modeLaw rfl hj anchor qualified (gradeOf_range hj ..)

theorem State.AtRest.firstSelection (hq : (s.monitor r).state = .qualified) : (s.firstSelection r).ModeLaw :=
  have rest' : ({ s with selector := s.selector.select r } : State).AtRest := { rest with }
  rest'.changeMode (by decide) ⟨fun _ => rfl, fun _ => rfl⟩ fun _ h => Option.some.inj h ▸ hq

/-- A station with nothing selected that changes to TRACK or HOLD. -/
theorem State.AtRest.changeUnselected {m : Mode} (hj : m ≠ .listen) (ha : m ≠ .anchor)
    (hs : s.selector.selected = none) : (s.changeMode m).ModeLaw :=
  rest.changeMode hj ⟨fun h => absurd h ha, fun h => by rw [hs] at h; cases h⟩ fun _ h => by rw [hs] at h; cases h

theorem State.AtRest.switchTo (hm : s.modes.mode = .anchor) (hq : (s.monitor r).state = .qualified) :
    (s.switchTo r).ModeLaw :=
  have rest' : (s.switchTo r).AtRest := { rest with }
  rest'.modeLaw (m := .anchor) hm (by decide) ⟨fun _ => rfl, fun _ => rfl⟩ (fun _ h => Option.some.inj h ▸ hq)
    (gradeOf_range (by rw [hm]; decide) ..)

theorem State.AtRest.enterHold (hs : s.selector.selected = none) : s.enterHold.ModeLaw := by
  unfold State.enterHold
  refine State.AtRest.changeUnselected (m := .hold) ?_ (by decide) (by decide) hs
  exact { rest with }

/-- The loss of the selected reference ends in a switch or in HOLD (R115, R127, R128). -/
theorem State.AtRest.loseSelected (hm : s.modes.mode = .anchor) : (s.loseSelected r).ModeLaw := by
  unfold State.loseSelected
  dsimp only
  split
  · rename_i hq
    refine State.AtRest.switchTo { rest with } hm ?_
    exact (State.qualified_iff _).mp hq
  · exact State.AtRest.enterHold { rest with } rfl

end

/-- A selection from none takes a QUALIFIED reference (R114). -/
theorem State.choice_qualified {s : State} {r : RefId} (h : s.choice = some r) : (s.monitor r).state = .qualified := by
  rw [← State.qualified_iff]
  unfold State.choice at h
  split at h
  next => cases h
  next ha _ => cases h; exact ha
  next _ hb => cases h; exact hb
  next ha hb =>
    split at h <;> cases h
    · exact hb
    · exact ha

/-! The reference monitors and the selector (R108 to R110, R114) -/

theorem RefId.eq_other {q r : RefId} (h : q ≠ r) : q = r.other := by
  revert h
  cases q <;> cases r <;> decide

section
variable {s : State} {r : RefId} (law : s.ModeLaw)
include law

/-- A monitor may change in every way that leaves the selected reference QUALIFIED. -/
theorem State.ModeLaw.setMonitor {m : Monitor} (h : s.selector.selected = some r → m.state = .qualified) :
    (s.setMonitor r m).ModeLaw := by
  have kept (q : RefId) (hq : s.selector.selected = some q) : ((s.setMonitor r m).monitor q).state = .qualified := by
    by_cases e : q = r
    · subst e
      rw [State.monitor_setMonitor_same]
      exact h hq
    · obtain rfl := RefId.eq_other e
      rw [State.monitor_setMonitor_other]
      exact law.qualified _ hq
  have same : (s.setMonitor r m).running = s.running := by cases r <;> rfl
  obtain ⟨anchor, -, listening, grade, phase, request, withdrawn, noJoin, drive, reset⟩ := law
  constructor <;> simpa [same]

/-- A monitor that is not QUALIFIED is that of no selected reference, so it may change freely. -/
theorem State.ModeLaw.setUnqualified (h : (s.monitor r).state ≠ .qualified) (m : Monitor) :
    (s.setMonitor r m).ModeLaw := law.setMonitor fun hs => absurd (law.qualified r hs) h

theorem State.ModeLaw.evaluateSelector (hj : s.modes.mode ≠ .listen) : s.evaluateSelector.ModeLaw := by
  have rest := law.atRest hj
  unfold State.evaluateSelector
  cases hs : s.selector.selected with
  | none =>
    cases hc : s.choice with
    | none => exact law
    | some q => exact rest.firstSelection (State.choice_qualified hc)
  | some q =>
    dsimp only
    split
    · rename_i better
      obtain ⟨hq, -⟩ := Bool.and_eq_true_iff.mp better
      exact rest.switchTo (law.anchor.mpr (by rw [hs]; rfl)) ((State.qualified_iff _).mp hq)
    · exact law

theorem State.ModeLaw.loseReference : (s.loseReference r).ModeLaw := by
  rw [State.loseReference_eq]
  split
  case isTrue hs =>
    have hm : s.modes.mode = .anchor := law.anchor.mpr (by rw [hs]; rfl)
    obtain ⟨running, phase, withdrawn, request⟩ := law.atRest (by rw [hm]; decide)
    obtain ⟨-, -, modes, ftu, -⟩ := s.lossNoted_beside r
    have beside : (s.lossNoted r).pins = s.pins ∧ (s.lossNoted r).listen = s.listen := by
      unfold State.lossNoted
      dsimp only
      split <;> simp
    obtain ⟨pins, listen⟩ := beside
    refine State.AtRest.loseSelected ⟨?_, ?_, ?_, ?_⟩ (modes ▸ hm)
    · rw [State.running, pins]; exact running
    · rw [listen, phase]
    · rw [listen, withdrawn]
    · rw [ftu, request]
  case isFalse hs =>
    have noted := law.setMonitor (m := (s.monitor r).lose.noteLoss s.stamp) fun h => absurd h hs
    unfold State.lossNoted
    dsimp only
    split
    · exact noted.congr (.of_blocks rfl rfl rfl rfl rfl rfl rfl rfl rfl)
    · exact noted

theorem State.ModeLaw.impair : (s.impair r).ModeLaw := by
  unfold State.impair
  dsimp only
  split
  · exact law.loseReference
  · exact law.setMonitor fun hs => law.qualified r hs

theorem State.ModeLaw.noteQualified : s.noteQualified.ModeLaw := by
  by_cases hm : s.modes.mode = .listen
  · rwa [State.noteQualified_listening hm]
  · rw [State.noteQualified_joined hm]
    exact law.evaluateSelector hm

theorem State.ModeLaw.judgeInterval (i : Interval) : (s.judgeInterval r i).ModeLaw := by
  unfold State.judgeInterval
  dsimp only
  cases hm : (s.monitor r).state with
  | absent => exact law
  | down =>
    have unqualified : (s.monitor r).state ≠ .qualified := by rw [hm]; decide
    cases i with
    | good => exact law.setUnqualified unqualified _
    | absent | bad => exact law
  | qualifying =>
    have set := law.setUnqualified (r := r) (by rw [hm]; decide)
    cases i with
    | good =>
      dsimp only
      split
      · exact (set _).noteQualified
      · exact set _
    | bad => exact set _
    | absent => exact law
  | qualified =>
    cases i with
    | good => exact law.setMonitor fun _ => rfl
    | bad => exact law.impair
    | absent => exact law

theorem State.ModeLaw.takeAcceptedEdge (n : Nat) : (s.takeAcceptedEdge r n).ModeLaw := by
  have accepted : (s.setMonitor r ((s.monitor r).accept n)).ModeLaw := law.setMonitor fun hs => law.qualified r hs
  refine (accepted.congr ?_).judgeInterval _
  unfold State.offerEdge Selector.edge
  (repeat' split) <;> exact .of_blocks rfl rfl rfl rfl rfl rfl rfl rfl rfl

theorem State.ModeLaw.takeMissingEdge : (s.takeMissingEdge r).ModeLaw := by
  have missed : (s.setMonitor r (s.monitor r).miss).ModeLaw := law.setMonitor fun hs => law.qualified r hs
  have offered : ((s.setMonitor r (s.monitor r).miss).offerNothing r).ModeLaw := by
    refine missed.congr ?_
    unfold State.offerNothing
    split <;> exact .of_blocks rfl rfl rfl rfl rfl rfl rfl rfl rfl
  have monitor : ((s.setMonitor r (s.monitor r).miss).offerNothing r).monitor r = (s.monitor r).miss := by
    rw [State.offerNothing_eq, State.setMonitor_selector_monitor]
  unfold State.takeMissingEdge
  dsimp only
  cases hm : (s.monitor r).state with
  | absent | down => exact offered
  | qualifying =>
    refine offered.setUnqualified ?_ _
    rw [monitor, Monitor.miss, hm]
    decide
  | qualified => exact offered.impair

end

/-! The office boundary (R86, R137, R138, R161, R163, R164) -/

section
variable {s : State} (law : s.ModeLaw)
include law

/-- A withdrawal leaves the station in LISTEN with nothing selected, graded, driven or pending. -/
theorem State.ModeLaw.takeWithdrawal (hw : s.listen.withdrawRequest = true) : s.takeWithdrawal.ModeLaw := by
  have request : s.ftu.joinRequest.isSome = false := by rw [law.unrequested (law.noJoin hw)]; rfl
  have running : s.running = true := by
    by_contra h
    obtain ⟨-, -, -, none⟩ := law.reset (Bool.eq_false_iff.mpr h)
    exact nomatch hw.symm.trans none
  unfold State.takeWithdrawal
  cases hj : s.joined with
  | false =>
    have hm := s.joined_eq_false_iff.mp hj
    exact { law with
      phase := fun _ => hm
      request := fun h => nomatch request.symm.trans h
      withdrawn := fun _ => ⟨hm, rfl⟩
      noJoin := fun _ => nofun
      reset := fun h => nomatch running.symm.trans h }
  | true =>
    exact
      { anchor := ⟨nofun, nofun⟩
        qualified := nofun
        listening := fun _ => rfl
        grade := fun h => absurd rfl h
        phase := fun _ => rfl
        request := fun h => nomatch request.symm.trans h
        withdrawn := fun _ => ⟨rfl, rfl⟩
        noJoin := nofun
        drive := fun _ => ⟨rfl, rfl⟩
        reset := fun h => nomatch running.symm.trans h }

/-- The FTU's boundary work uses up a join request (R86). -/
theorem State.ModeLaw.ftuBoundary : s.ftuBoundary.ModeLaw := by
  have none : s.ftuBoundary.ftu.joinRequest = none := by rw [State.ftuBoundary, Ftu.boundary_eq]
  exact { law with request := fun h => by rw [none] at h; cases h }

theorem State.ModeLaw.boundaryStart : s.boundaryStart.ModeLaw := by
  have window : s.closeListenWindow.ModeLaw := law.congr (.of_blocks rfl rfl rfl rfl rfl rfl rfl rfl rfl)
  rw [State.boundaryStart_eq]
  rcases s.beforeFtu_cases with e | ⟨hw, e⟩ <;> rw [e]
  · exact window.ftuBoundary
  · exact (window.takeWithdrawal hw).ftuBoundary

/-- The join leaves a station in ANCHOR or TRACK, its procedure started afresh (R125, R161). -/
theorem State.ModeLaw.takeJoin (hp : s.listen.phase = .joinFrame) (hr : s.running = true) : s.takeJoin.ModeLaw := by
  have hm : s.modes.mode = .listen := law.phase (by rw [hp]; decide)
  have stays : s.listen.withdrawn = false := by
    by_contra h
    obtain ⟨-, running⟩ := law.withdrawn (Bool.not_eq_false _ ▸ h)
    rw [hp] at running
    cases running
  have rest : ({ s.acquire with listen := s.listen.afresh } : State).AtRest :=
    ⟨hr, rfl, stays, law.unrequested (by rw [hp]; decide)⟩
  unfold State.takeJoin
  dsimp only
  split
  · rename_i r hc
    exact (rest.firstSelection (State.choice_qualified hc)).congr (.of_blocks rfl rfl rfl rfl rfl rfl rfl rfl rfl)
  · exact (rest.changeUnselected (m := .track) (by decide) (by decide) (law.unselected (by rw [hm]; decide))).congr
      (.of_blocks rfl rfl rfl rfl rfl rfl rfl rfl rfl)

/-- The passage of a boundary; a join frame begins at a station that has asked for it (R161, R163, R164, R86). -/
theorem State.ModeLaw.passage (hr : s.running = true) (hn : s.ftu.joinRequest = none) {begins : Bool}
    (hb : begins = true → s.modes.mode = .listen ∧ s.listen.withdrawn = false) (ej : Bool) :
    (s.passage ej begins).ModeLaw := by
  have unasked : s.ftu.joinRequest.isSome = false := by rw [hn]; rfl
  unfold State.passage
  split
  case isTrue hw => exact law.takeWithdrawal hw
  split
  case isTrue hp => exact law.takeJoin hp hr
  split
  case isTrue h =>
    obtain ⟨hm, -⟩ := law.withdrawn (Bool.and_eq_true_iff.mp h).1
    exact { law with
      phase := fun _ => hm
      request := fun h => nomatch unasked.symm.trans h
      withdrawn := nofun
      noJoin := fun _ => nofun
      reset := fun h => nomatch hr.symm.trans h }
  split
  case isTrue h =>
    obtain ⟨hm, stays⟩ := hb h
    exact { law with
      phase := fun _ => hm
      request := fun h => nomatch unasked.symm.trans h
      withdrawn := fun h => nomatch stays.symm.trans h
      noJoin := fun _ => nofun
      reset := fun h => nomatch hr.symm.trans h }
  · exact law

/-- The rail drives nothing new for a station in LISTEN (R138). -/
theorem State.ModeLaw.railBoundary (begins : Bool) : (s.railBoundary begins).ModeLaw := by
  unfold State.railBoundary
  split
  · rename_i hj
    have joined : s.modes.mode ≠ .listen := s.joined_iff.mp hj
    unfold State.driveRail
    dsimp only
    split <;> exact { law with drive := fun h => absurd h joined }
  · exact law.congr (.of_blocks rfl rfl rfl rfl rfl rfl rfl rfl rfl)

theorem State.ModeLaw.takeBoundary (hr : s.running = true) (ej : Bool) : (s.takeBoundary ej).ModeLaw := by
  have start := law.boundaryStart
  refine State.ModeLaw.congr ?_ (s.takeBoundary_same ej).sameModes
  unfold State.stationBoundary
  cases he : s.listen.withdrawRequest && Config.withdrawBeforeFtu s.choiceSeq with
  | true => exact start.railBoundary _
  | false =>
    have ordinary : s.boundaryStart = s.closeListenWindow.ftuBoundary := by
      rw [State.boundaryStart, he, applyWhen_false]
    have none : s.boundaryStart.ftu.joinRequest = none := by
      rw [ordinary, State.ftuBoundary, Ftu.boundary_eq]
    refine (start.passage ?_ none (fun hb => ?_) ej).railBoundary _
    · rw [ordinary]
      exact hr
    · obtain ⟨-, listening, -, stays⟩ := law.of_joinRequest hb
      rw [ordinary]
      exact ⟨listening, stays⟩

end

/-! The measurement close (R118, R123, R129, R132, R142, R159) -/

theorem State.formAtClose_sameModes (s : State) : s.SameModes s.formAtClose := by
  refine .of_blocks ?_ ?_ ?_ ?_ ?_ ?_ ?_ ?_ ?_ <;> simp [s.formAtClose_rail]

theorem State.countLeadAbsent_sameModes (s : State) : s.SameModes s.countLeadAbsent := by
  unfold State.countLeadAbsent
  (repeat' split) <;> exact .of_blocks rfl rfl rfl rfl rfl rfl rfl rfl rfl

/-- The FTU's close leaves a join request (R84). -/
theorem Ftu.close_joinRequest (f : Ftu) (m : Mode) (o : Option Int) : (f.close m o).joinRequest = f.joinRequest := by
  cases o with
  | none => rfl
  | some e => rw [Ftu.close, Ftu.closeMeasured_eq]

theorem State.ftuClose_sameModes (s : State) : s.SameModes s.ftuClose := by
  have selected : s.ftuClose.selector.selected = s.selector.selected := by
    rw [State.ftuClose_selector]
    split <;> rfl
  refine .of_blocks ?_ ?_ selected ?_ ?_ ?_ ?_ ?_ ?_ <;> simp [s.ftuClose_ftu, Ftu.close_joinRequest]

theorem State.countOffset_sameModes (s : State) : s.SameModes s.countOffset := by
  unfold State.countOffset
  (repeat' split) <;> exact ⟨rfl, rfl, rfl, rfl, fun _ => rfl, rfl, rfl, rfl, rfl, rfl, rfl⟩

theorem State.closeWork_sameModes (s : State) : s.SameModes s.closeWork :=
  (s.countLeadAbsent_sameModes.trans (State.ftuClose_sameModes _)).trans (State.countOffset_sameModes _)

theorem State.noteMark_sameModes (s : State) : s.SameModes s.noteMark := by
  unfold State.noteMark
  (repeat' split) <;> exact .of_blocks rfl rfl rfl rfl rfl rfl rfl rfl rfl

theorem State.countMark_sameModes (s : State) : s.SameModes { s with rail := s.rail.countMark } := by
  unfold Rail.countMark
  (repeat' split) <;> exact .of_blocks rfl rfl rfl rfl rfl rfl rfl rfl rfl

theorem State.relabelStep_sameModes (s : State) : s.SameModes s.relabelStep := by
  unfold State.relabelStep State.relabelBy
  dsimp only
  (repeat' split) <;> exact .of_blocks rfl rfl rfl rfl rfl rfl rfl rfl rfl

theorem State.closeMultiframe_sameModes (s : State) : s.SameModes s.closeMultiframe :=
  (s.countMark_sameModes.trans (State.relabelStep_sameModes _)).trans
    (.of_blocks rfl rfl rfl rfl rfl rfl rfl rfl rfl)

theorem State.marksAtClose_sameModes (s : State) : s.SameModes s.marksAtClose := by
  unfold State.marksAtClose
  (repeat' split)
  · exact s.noteMark_sameModes.trans (State.closeMultiframe_sameModes _)
  · exact s.noteMark_sameModes
  · exact .of_blocks rfl rfl rfl rfl rfl rfl rfl rfl rfl
  · exact .refl s

/-- The counts of a window leave phase and withdrawal as they are (R159). -/
theorem Listen.count_procedure (x : Listen) (w : WindowReading) : (x.count w).phase = x.phase ∧
    (x.count w).withdrawn = x.withdrawn ∧ (x.count w).withdrawRequest = x.withdrawRequest := by
  unfold Listen.count Listen.countMark Listen.countSilence Listen.countMidpoint
  (repeat' split) <;> exact ⟨rfl, rfl, rfl⟩

section
variable {s : State} (law : s.ModeLaw)
include law

theorem State.ModeLaw.followBetter (hm : s.modes.mode = .hold) : s.followBetter.ModeLaw :=
  have rest : s.acquire.AtRest := { law.atRest (by rw [hm]; decide) with }
  rest.changeUnselected (by decide) (by decide) (law.unselected (by rw [hm]; decide))

theorem State.ModeLaw.closeModes (testFirst : Bool) : (s.closeModes testFirst).ModeLaw := by
  have work := s.closeWork_sameModes
  unfold State.closeModes
  split
  case isTrue h =>
    obtain ⟨hm, -⟩ := s.holdTest_iff.mp h
    split
    · exact (law.followBetter hm).congr (State.closeWork_sameModes _)
    · exact (law.congr work).followBetter (work.mode.trans hm)
  case isFalse => exact law.congr work

/-- A join is requested of a listening station whose procedure runs and no withdrawal is asked of (R159). -/
theorem State.ModeLaw.requestJoin (hm : s.modes.mode = .listen) (hd : s.listen.withdrawn = false)
    (hw : s.listen.withdrawRequest = false) (hr : s.running = true) (o : Nat) : (s.requestJoin o).ModeLaw :=
  { law with
    phase := fun _ => hm
    request := fun _ => rfl
    withdrawn := fun h => nomatch hd.symm.trans h
    noJoin := fun h => nomatch hw.symm.trans h
    reset := fun h => nomatch hr.symm.trans h }

theorem State.ModeLaw.decideJoin (hm : s.modes.mode = .listen) (hd : s.listen.withdrawn = false)
    (hr : s.running = true) : s.decideJoin.ModeLaw := by
  unfold State.decideJoin
  split
  · exact law
  · rename_i o forced h
    have hw : s.listen.withdrawRequest = false := by
      by_contra hw
      rw [Listen.decision, if_pos (Bool.not_eq_false _ ▸ hw)] at h
      cases h
    have requested := law.requestJoin hm hd hw hr o
    split
    · exact requested.congr (.of_blocks rfl rfl rfl rfl rfl rfl rfl rfl rfl)
    · exact requested

theorem State.ModeLaw.listenAtClose (hr : s.running = true) (w : Option HeldWindow) : (s.listenAtClose w).ModeLaw := by
  unfold State.listenAtClose
  split
  · exact law
  · rename_i hj
    have hm : s.modes.mode = .listen := s.joined_eq_false_iff.mp (Bool.eq_false_iff.mpr hj)
    split
    case h_1 =>
      split
      case h_1 h hd =>
        obtain ⟨phase, withdrawn, request⟩ := s.listen.count_procedure h.reading
        have counted : ({ s with listen := s.listen.count h.reading } : State).ModeLaw := by
          refine law.congr ⟨rfl, rfl, rfl, rfl, fun _ => rfl, phase, withdrawn, request, rfl, rfl, rfl⟩
        exact counted.decideJoin hm (withdrawn.trans hd) hr
      case h_2 => exact law
    case h_2 => exact law
    case h_3 =>
      split
      · exact law
      · exact law.congr (.of_blocks rfl rfl rfl rfl rfl rfl rfl rfl rfl)

theorem State.ModeLaw.regrade : s.regrade.ModeLaw :=
  { law with
    listening := fun h => by
      have hm : s.modes.mode = .listen := h
      change gradeOf s.modes.mode _ _ _ = none
      rw [hm]
      rfl
    grade := fun h => gradeOf_range h .. }

theorem State.ModeLaw.takeClose (hr : s.running = true) : s.takeClose.ModeLaw := by
  have timed : s.timedClose.ModeLaw := (law.congr s.formAtClose_sameModes).closeModes _
  have marked := timed.congr s.timedClose.marksAtClose_sameModes
  have running : s.timedClose.marksAtClose.running = true := by
    simpa [State.running, State.timedClose] using hr
  have done : s.closeDone.ModeLaw := marked.listenAtClose running s.rail.held
  rw [State.takeClose_eq]
  generalize s.closeDone = x at done ⊢
  exact done.regrade.congr (.of_blocks rfl rfl rfl rfl rfl rfl rfl rfl rfl)

end

/-! The other commands -/

theorem State.takeGradeStart_sameModes (s : State) : s.SameModes s.takeGradeStart := by
  unfold State.takeGradeStart State.pullGrade
  (repeat' split) <;> exact .of_blocks rfl rfl rfl rfl rfl rfl rfl rfl rfl

theorem State.takeCapture_sameModes (s : State) (line : RailLine) (ch : LineChange) (k : Nat) :
    s.SameModes (s.takeCapture line ch k) := by
  unfold State.takeCapture
  split <;> exact .of_blocks rfl rfl rfl rfl rfl rfl rfl rfl rfl

theorem State.SameBesideData.sameModes {s u : State} (h : s.SameBesideData u) : s.SameModes u := by
  rw [show u = _ from h]
  exact .of_blocks rfl rfl rfl rfl rfl rfl rfl rfl rfl

/-- Whatever it finds, an assertion leaves the mode law (R113, R121, R136, R157). -/
theorem State.resetBlocks_modeLaw (s : State) : s.resetBlocks.ModeLaw := by
  obtain ⟨-, -, -, reset, -⟩ := lawsAtReset
  exact reset.congr (.of_blocks rfl rfl rfl rfl rfl rfl rfl rfl rfl)

section
variable {s : State} (law : s.ModeLaw)
include law

/-- A rise of EJ asks for a withdrawal and clears a pending join (R163). -/
theorem State.ModeLaw.takeEjRise (hr : s.running = true) : s.takeEjRise.ModeLaw := by
  unfold State.takeEjRise
  dsimp only
  split
  case isTrue hp =>
    have hm : s.modes.mode = .listen := law.phase (by rw [hp]; decide)
    exact { law with
      phase := fun _ => hm
      request := nofun
      withdrawn := fun _ => ⟨hm, rfl⟩
      noJoin := fun _ => nofun
      reset := fun h => nomatch hr.symm.trans h }
  case isFalse hp => exact { law with noJoin := fun _ => hp, reset := fun h => nomatch hr.symm.trans h }

/-- A release finds a station in LISTEN with nothing pending; EJ may keep it withdrawn (R156, R157). -/
theorem State.ModeLaw.takeRelease (hr : s.running = false) (p : Straps) (ej : Bool) : (s.takeRelease p ej).ModeLaw := by
  obtain ⟨hm, phase, withdrawn, request⟩ := law.reset hr
  have unselected := law.unselected (by rw [hm]; decide)
  have released : (s.released p ej).ModeLaw :=
    { law with
      qualified := fun r h => nomatch unselected.symm.trans h
      withdrawn := fun _ => ⟨hm, phase⟩
      reset := nofun }
  have beside := s.takeRelease_besidePage p ej
  exact released.congr (.of_blocks (congrArg _ beside.pins) beside.modes (congrArg _ beside.selector)
    (congrArg _ beside.monA) (congrArg _ beside.monB) beside.listen (congrArg _ beside.ftu) (congrArg _ beside.rail)
    (congrArg _ beside.rail))

theorem State.ModeLaw.whenRunning {f : State → State} (h : s.running = true → (f s).ModeLaw) :
    (whenRunning f s).ModeLaw := by
  unfold Machine.whenRunning
  split
  · rename_i hr
    exact h hr
  · exact law

end

/-! Every command and every tick -/

/-- Every command keeps the mode law. -/
theorem State.ModeLaw.exec {s u : State} (law : s.ModeLaw) (c : Instr) (hu : exec c s = .next u) : u.ModeLaw := by
  have edge (t : TribId) (b : Bool) : (s.lineEdge t b).ModeLaw :=
    law.congr (s.lineEdge_byTrib t b).beside.sameModes
  cases c with
  | resetAssertion => cases hu; exact s.resetBlocks_modeLaw
  | resetRelease p ej =>
    cases hu
    split
    · exact law
    · rename_i hr
      exact law.takeRelease (Bool.eq_false_iff.mpr hr) p ej
  | leaveDark t b => rw [exec_leaveDark_eq] at hu; cases hu; exact edge t b
  | darkEntry t =>
    cases hu
    split
    · exact law.congr (s.discard_within t _ _ _).beside.sameModes
    · exact law
  | candidate t b => rw [exec_candidate_eq] at hu; cases hu; exact edge t b
  | verifyCheck t b => rw [exec_verifyCheck_eq] at hu; cases hu; exact edge t b
  | syncOctetCheck t b => rw [exec_syncOctetCheck_eq] at hu; cases hu; exact edge t b
  | frameCompletion t b => rw [exec_frameCompletion_eq] at hu; cases hu; exact edge t b
  | officeBoundary ej => cases hu; exact law.whenRunning fun hr => law.takeBoundary hr ej
  | measurementClose => cases hu; exact law.whenRunning law.takeClose
  | acceptedEdge r n =>
    cases hu
    split
    · exact law.takeAcceptedEdge n
    · exact law
  | missingEdge r =>
    cases hu
    split
    · exact law.takeMissingEdge
    · exact law
  | gradeStart => cases hu; exact law.whenRunning fun _ => law.congr s.takeGradeStart_sameModes
  | pulseEnd line =>
    cases hu
    exact law.whenRunning fun _ => law.congr (.of_blocks rfl rfl rfl rfl rfl rfl rfl rfl rfl)
  | ejRisingEdge => cases hu; exact law.whenRunning law.takeEjRise
  | acknowledgement =>
    cases hu
    exact law.whenRunning fun _ => law.congr (.of_blocks rfl rfl rfl rfl rfl rfl rfl rfl rfl)
  | lineClockEdge t b => cases hu; exact edge t b
  | railLineCapture line ch k => cases hu; exact law.whenRunning fun _ => law.congr (s.takeCapture_sameModes line ch k)
  | officeBit k half =>
    cases hu
    exact law.whenRunning fun _ => law.congr (.of_blocks rfl rfl rfl rfl rfl rfl rfl rfl rfl)

/-- A tick of a monitor leaves its state. -/
theorem Monitor.tick_state (m : Monitor) (high : Bool) : (m.tick high).state = m.state := by
  unfold Monitor.tick Monitor.sample
  (repeat' split) <;> rfl

/-- A tick writes nothing of which the mode law speaks. -/
theorem State.idle_sameModes (s : State) : s.SameModes s.idle := by
  unfold State.idle
  split
  · dsimp only
    rw [State.readRail_state]
    exact .of_blocks rfl rfl rfl rfl rfl rfl rfl rfl rfl
  · unfold State.takeTick
    dsimp only
    split
    case isTrue hr =>
      split
      · rw [State.tickRunning_state]
        refine ⟨rfl, rfl, rfl, rfl, fun r => ?_, rfl, rfl, rfl, rfl, rfl, rfl⟩
        cases r <;> exact Monitor.tick_state ..
      · exact .of_blocks hr.symm rfl rfl rfl rfl rfl rfl rfl rfl
    case isFalse hr => exact .of_blocks (Bool.eq_false_iff.mpr hr).symm rfl rfl rfl rfl rfl rfl rfl rfl

/-- Settles O40: a tick leaves all that the law speaks of, and every command keeps the law. -/
theorem modeLawKept : Obligations.ModeLawKept := by
  intro s u law h
  unfold step at h
  split at h
  next => cases h; exact law.congr s.idle_sameModes
  next c rest _ =>
    have queued : ({ s with pending := rest } : State).ModeLaw := { law with }
    exact queued.exec c h

end Sys2Proof.Machine
end

section
/-! PROOFS. The grade by mode (R122), and the offset run at a close in ANCHOR (R132): the run and its flag written once
per outcome, and what the rest of the close leaves of them. -/

namespace Sys2Proof.Machine

/-! The grade (R122) -/

/-- The grade of HOLD steps down after 900 and after 86400 seconds. -/
theorem gradeOf_hold (g : GainSet) (cls : Option RefClass) (age : Nat) : gradeOf .hold g cls age =
    some (if age < 900 then 5 else if age < 86400 then 4 else 3) := by
  unfold gradeOf
  dsimp only
  (repeat' split) <;> rfl

/-- Settles O38, mode by mode. -/
theorem grades : Obligations.Grades := by
  intro g c a
  simp only [gradeOf_hold]
  refine ⟨rfl, rfl, rfl, rfl, rfl, fun h5 => ?_, fun h4 h4' => ?_, rfl, fun m hm => gradeOf_range hm g c a⟩
  · rw [if_pos (by omega)]
  · rw [if_neg (by omega), if_pos (by omega)]

/-! The offset run (R132) -/

theorem State.offsetCounts_iff (s : State) : s.offsetCounts = true ↔
    (∃ e : Int, s.rail.railError = some e ∧ 256 < e.natAbs) ∨
      (s.rail.railError = none ∧ s.rail.drivingLead = false) := by
  unfold State.offsetCounts
  cases s.rail.railError <;> simp

section
variable {s : State} (hm : s.modes.mode = .anchor)
include hm

theorem State.countOffset_ended (hc : s.offsetCounts ≠ true) :
    s.countOffset = { s with modes := { s.modes with offsetRun := 0 } } := by
  rw [State.countOffset, if_pos hm, if_neg hc]

theorem State.countOffset_counted (hc : s.offsetCounts = true) (hr : s.modes.offsetRun ≠ 7999) :
    s.countOffset = { s with modes := { s.modes with offsetRun := s.modes.offsetRun + 1 } } := by
  rw [State.countOffset, if_pos hm, if_pos hc]
  exact if_neg fun h => hr (Nat.succ.inj h)

theorem State.countOffset_full (hc : s.offsetCounts = true) (hr : s.modes.offsetRun = 7999) :
    s.countOffset = ({ s with modes := { s.modes with offsetRun := 0 } } : State).raise .offset := by
  rw [State.countOffset, if_pos hm, if_pos hc]
  exact if_pos (congrArg Nat.succ hr)

end

/-! The close around the offset run -/

/-- A relabel raises no flag but RELABEL (R150). -/
theorem State.relabelBy_flags_ne (s : State) (k : Nat) {f : FlagId} (h : f ≠ .relabel) :
    (s.relabelBy k).flags.get f = s.flags.get f := by
  unfold State.relabelBy
  dsimp only
  split
  · exact Flags.get_raise_ne _ h
  · rfl

/-- The multiframe close raises no other flag. -/
theorem State.closeMultiframe_flags_ne (s : State) {f : FlagId} (h : f ≠ .relabel) :
    s.closeMultiframe.flags.get f = s.flags.get f := by
  unfold State.closeMultiframe State.relabelStep
  dsimp only
  (repeat' split)
  · rfl
  · exact State.relabelBy_flags_ne _ _ h
  · rfl

/-- Nor do the marks of a close. -/
theorem State.marksAtClose_flags_ne (s : State) {f : FlagId} (h : f ≠ .relabel) :
    s.marksAtClose.flags.get f = s.flags.get f := by
  unfold State.marksAtClose
  (repeat' split)
  · rw [State.closeMultiframe_flags_ne _ h, State.noteMark_flags]
  · rw [State.noteMark_flags]
  · rfl
  · rfl

/-- The LISTEN procedure does nothing at the close of a joined station (R159). -/
theorem State.listenAtClose_joined {s : State} (h : s.joined = true) (w : Option HeldWindow) :
    s.listenAtClose w = s := if_pos h

/-- The FTU's close raises no flag but RANGE (R96). -/
theorem State.ftuClose_flags_ne (s : State) {f : FlagId} (h : f ≠ .range) :
    s.ftuClose.flags.get f = s.flags.get f := by
  rw [State.ftuClose_flags]
  split
  · exact Flags.get_raise_ne _ h
  · rfl

section
variable {s : State} (hm : s.modes.mode = .anchor)
include hm

/-- In ANCHOR a close makes no HOLD test (R129). -/
theorem State.formAtClose_untested : s.formAtClose.holdTest = false := Bool.eq_false_iff.mpr fun h => by
  obtain ⟨hold, -⟩ := (State.holdTest_iff _).mp h
  rw [State.formAtClose_modes, hm] at hold
  cases hold

/-- Nor does it count an absent LEAD (R144): the offset run follows the FTU's close. -/
theorem State.timedClose_anchor : s.timedClose = s.formAtClose.ftuClose.countOffset := by
  have counted : s.formAtClose.countLeadAbsent = s.formAtClose :=
    State.countLeadAbsent_elsewhere (by rw [State.formAtClose_modes, hm]; decide)
  rw [State.timedClose, State.closeModes, State.formAtClose_untested hm, if_neg Bool.false_ne_true, State.closeWork,
    counted]

/-- The run and the flag that the offset count leaves stay to the end of the close. -/
theorem State.takeClose_offset :
    s.takeClose.modes.offsetRun = s.formAtClose.ftuClose.countOffset.modes.offsetRun ∧
      s.takeClose.flags.offset = s.formAtClose.ftuClose.countOffset.flags.offset := by
  have joined : s.timedClose.joined = true := by
    rw [State.joined_iff, ← s.takeClose_timed.mode, (State.takeClose_work (State.formAtClose_untested hm)).mode,
      State.formAtClose_modes, hm]
    decide
  have flags : s.takeClose.flags = s.timedClose.marksAtClose.flags := by
    rw [State.takeClose_eq, State.closeDone,
      State.listenAtClose_joined ((State.marksAtClose_joined _).trans joined)]
    rfl
  rw [← State.timedClose_anchor hm, flags]
  exact ⟨s.takeClose_timed.offsetRun, s.timedClose.marksAtClose_flags_ne (f := .offset) nofun⟩

end

/-- The offset count finds mode machine and OFFSET as they were before the close, and the rail error just formed. -/
theorem State.beforeOffset (s : State) :
    s.formAtClose.ftuClose.modes = s.modes ∧ s.formAtClose.ftuClose.flags.offset = s.flags.offset ∧
      (s.formAtClose.ftuClose.offsetCounts = true ↔
        (∃ e : Int, s.takeClose.rail.railError = some e ∧ 256 < e.natAbs) ∨
          (s.takeClose.rail.railError = none ∧ s.rail.drivingLead = false)) := by
  have flag : s.formAtClose.ftuClose.flags.offset = s.formAtClose.flags.offset :=
    State.ftuClose_flags_ne (f := .offset) _ nofun
  rw [State.offsetCounts_iff, State.ftuClose_rail, State.formAtClose_rail, flag, State.ftuClose_modes,
    State.formAtClose_modes, State.formAtClose_flags]
  exact ⟨rfl, rfl, .rfl⟩

/-- Settles O39: the close counts, counts for the 8000th time, or ends the run. -/
theorem offsetRun : Obligations.OffsetRun := by
  intro s hr hm
  obtain ⟨run, flag⟩ := State.takeClose_offset hm
  obtain ⟨modes, before, counts⟩ := s.beforeOffset
  refine ⟨_, exec_measurementClose hr, ?_⟩
  rw [← counts, run, flag]
  generalize s.formAtClose.ftuClose = x at modes before ⊢
  rw [← modes] at hm ⊢
  rw [← before]
  refine ⟨fun hc h => ?counted, fun hc h => ?full, fun hc => ?ended, fun h => ?unraised⟩
  case counted => rw [State.countOffset_counted hm hc (Nat.ne_of_lt h)]
  case full =>
    rw [State.countOffset_full hm hc h]
    exact ⟨rfl, rfl⟩
  case ended => rw [State.countOffset_ended hm hc]
  case unraised =>
    by_cases hc : x.offsetCounts = true
    · rw [State.countOffset_counted hm hc fun e => h ⟨hc, e⟩]
    · rw [State.countOffset_ended hm hc]

end Sys2Proof.Machine
end

section
/-! PROOFS. What a station pulls low from a boundary (R124, R137, R138, R141): the rail that an ordinary boundary
leaves a joined station, and that of a boundary which ends in LISTEN. -/

namespace Sys2Proof.Machine

/-! An ordinary boundary of a joined station -/

section
variable {s : State} (hm : s.modes.mode ≠ .listen) (hp : s.listen.phase = .running)
  (hd : s.listen.withdrawn = false) (hw : s.listen.withdrawRequest = false) (hj : s.ftu.joinRequest = none)
include hm hp hd hw hj

/-- With nothing due, the station's blocks do no more than the FTU's work and drive the rail (R137). -/
theorem State.takeBoundary_ordinary (ej : Bool) : (s.takeBoundary ej).SameStation
    ({ s.closeListenWindow.ftuBoundary with
        rail := { s.closeListenWindow.rail with listenWindow := false } } : State).driveRail := by
  have joined : s.closeListenWindow.ftuBoundary.joined = true := (State.joined_iff _).mpr hm
  have quiet : s.closeListenWindow.ftuBoundary.passage ej false = s.closeListenWindow.ftuBoundary :=
    State.passage_quiet hw (by change s.listen.phase ≠ _; rw [hp]; decide) (.inl hd)
  have same := s.takeBoundary_same ej
  rw [State.boundaryStart_ordinary hw, hw, Bool.false_and, hj, State.stationBoundary, if_neg Bool.false_ne_true,
    Option.isSome_none, quiet, State.railBoundary_joined joined] at same
  exact same

/-- The rail then: the driven grade, the LEAD test, the pulses begun and the first falls of the lines they pull. -/
theorem State.takeBoundary_ordinary_rail (ej : Bool) : (s.takeBoundary ej).rail = { s.rail with
    held := s.closeListenWindow.rail.held
    listenWindow := false
    drivenGrade := s.modes.grade
    drivingLead := s.drivesLead
    pulses := { s.rail.pulses with
      beat := some (s.ftu.crystal + beatTicks (s.takeBoundary ej).ftu.officeIndex s.drivesLead)
      lead := if s.drivesLead then some (s.ftu.crystal + 32) else s.rail.pulses.lead }
    caps := { s.rail.caps with
      beat := s.rail.caps.beat.ownFall
      lead := if s.drivesLead then s.rail.caps.lead.ownFall else s.rail.caps.lead } } := by
  have same := State.takeBoundary_ordinary hm hp hd hw hj ej
  have crystal : s.closeListenWindow.ftuBoundary.ftu.crystal = s.ftu.crystal :=
    (s.ftu.boundary_keeps s.modes.mode).1.crystal
  rw [same.rail, same.ftu, State.driveRail_rail, State.driveRail_ftu, crystal]
  rfl

end

/-! A boundary that ends in LISTEN -/

/-- Neither withdrawal nor join ends a pulse in progress (R137). -/
theorem State.passage_pulses (s : State) (ej begins : Bool) :
    (s.passage ej begins).rail.pulses = s.rail.pulses := by
  unfold State.passage
  (repeat' split)
  · rw [State.takeWithdrawal_rail]
    split <;> rfl
  · rw [State.takeJoin_rail]
    rfl
  all_goals rfl

theorem State.boundaryStart_pulses (s : State) : s.boundaryStart.rail.pulses = s.rail.pulses := by
  rw [State.boundaryStart_eq]
  change s.beforeFtu.rail.pulses = _
  rcases s.beforeFtu_cases with e | ⟨-, e⟩ <;> rw [e]
  · rfl
  · rw [State.takeWithdrawal_rail]
    split <;> rfl

/-- The rail of a station in LISTEN: its pulses go on to the ends they had, and its windows are discarded (R137,
R158). -/
theorem State.railBoundary_listening {s : State} {begins : Bool} (h : (s.railBoundary begins).modes.mode = .listen) :
    (s.railBoundary begins).rail.pulses = s.rail.pulses ∧ (s.railBoundary begins).rail.caps = Captures.blank := by
  rw [State.railBoundary_modes] at h
  rw [State.railBoundary_alone (s.joined_eq_false_iff.mpr h)]
  exact ⟨rfl, rfl⟩

theorem State.stationBoundary_listening {s : State} {ej begins early : Bool}
    (h : (s.stationBoundary ej begins early).modes.mode = .listen) :
    (s.stationBoundary ej begins early).rail.pulses = s.rail.pulses ∧
      (s.stationBoundary ej begins early).rail.caps = Captures.blank := by
  cases early with
  | true => exact State.railBoundary_listening h
  | false => exact s.passage_pulses ej begins ▸ State.railBoundary_listening h

theorem State.takeBoundary_listening {s : State} {ej : Bool} (h : (s.takeBoundary ej).modes.mode = .listen) :
    (s.takeBoundary ej).rail.pulses = s.rail.pulses ∧ (s.takeBoundary ej).rail.caps = Captures.blank := by
  have same := s.takeBoundary_same ej
  rw [same.modes] at h
  rw [same.rail, ← s.boundaryStart_pulses]
  exact State.stationBoundary_listening h

/-- Settles O41: the joined station by the equation of its rail, the one in LISTEN by the mode law and its windows. -/
theorem boundaryDrives : Obligations.BoundaryDrives := by
  refine ⟨fun s ej hr hm hp hd hw hj => ?joined, fun s ej hr law => ?listening⟩
  case joined =>
    have same := State.takeBoundary_ordinary hm hp hd hw hj ej
    refine ⟨_, exec_officeBoundary hr ej, by rw [same.modes, State.driveRail_modes]; rfl,
      by rw [same.selector, State.driveRail_selector]; rfl, ?_⟩
    rw [State.takeBoundary_ordinary_rail hm hp hd hw hj ej]
    exact ⟨rfl, decide_eq_true_iff, rfl, rfl, rfl, rfl, rfl⟩
  case listening =>
    refine ⟨_, exec_officeBoundary hr ej, fun h => ?_⟩
    obtain ⟨pulses, caps⟩ := State.takeBoundary_listening h
    obtain ⟨lead, driven⟩ := (law.takeBoundary hr ej).drive h
    exact ⟨pulses, lead, driven, caps⟩

end Sys2Proof.Machine
end

section
/-! PROOFS. The rail lines (R135, R137, R139 to R141, R146): the pulses and captures of one line, the end of a pulse, the
grade start, and the captures of a fall or a rise in its window. -/

namespace Sys2Proof.Machine

/-! Pulses and captures, line by line -/

@[simp] theorem Pulses.get_put_same (p : Pulses) (line : RailLine) (x : Option Nat) : (p.put line x).get line = x := by
  cases line <;> rfl

theorem Pulses.get_put_ne (p : Pulses) {line l : RailLine} (x : Option Nat) (h : l ≠ line) :
    (p.put line x).get l = p.get l := by
  cases line <;> cases l <;> simp_all [Pulses.get, Pulses.put]

@[simp] theorem Captures.get_put_same (c : Captures) (line : RailLine) (x : LineCapture) :
    (c.put line x).get line = x := by
  cases line <;> rfl

theorem Captures.get_put_ne (c : Captures) {line l : RailLine} (x : LineCapture) (h : l ≠ line) :
    (c.put line x).get l = c.get l := by
  cases line <;> cases l <;> simp_all [Captures.get, Captures.put]

/-- What a station pulls low is read from the pulse of that line and the crystal (R135). -/
theorem State.ownLow_congr {s u : State} {line : RailLine} (hp : u.rail.pulses.get line = s.rail.pulses.get line)
    (hc : u.ftu.crystal = s.ftu.crystal) : u.ownLow line = s.ownLow line := by
  rw [State.ownLow, State.ownLow, hp, hc]

theorem State.ownLow_unpulled {s : State} {line : RailLine} (h : s.rail.pulses.get line = none) :
    s.ownLow line = false := by
  rw [State.ownLow, h]

theorem State.ownLow_pulled {s : State} {line : RailLine} {e : Nat} (h : s.rail.pulses.get line = some e)
    (he : s.ftu.crystal < e) : s.ownLow line = true := by
  rw [State.ownLow, h]
  exact decide_eq_true he

/-- A line that the station pulls is read low unless a fault holds it high (R135, R152). -/
theorem State.lineLow_of_ownLow {s : State} {line : RailLine} (h : s.ownLow line = true)
    (hp : s.pins.line line ≠ .heldHigh) : s.lineLow line = true := by
  unfold State.lineLow
  split
  · rfl
  · exact absurd ‹_› hp
  · exact h

/-! The end of a pulse (R137) -/

theorem exec_pulseEnd {s : State} (hr : s.running = true) (line : RailLine) :
    exec (.pulseEnd line) s = .next (s.takePulseEnd line) := congrArg _ (whenRunning_running hr)

/-- Settles O43: the pulse of the line is none, those of the others stand. -/
theorem pulseEnd : Obligations.PulseEnd := by
  intro s line hr
  have ended : (s.takePulseEnd line).rail.pulses.get line = none := Pulses.get_put_same ..
  have others (l : RailLine) (hl : l ≠ line) : (s.takePulseEnd line).rail.pulses.get l = s.rail.pulses.get l :=
    Pulses.get_put_ne _ _ hl
  exact ⟨_, exec_pulseEnd hr line, ended, others, State.ownLow_unpulled ended,
    fun l hl => State.ownLow_congr (others l hl) rfl, rfl⟩

/-! The grade start (R139) -/

theorem exec_gradeStart {s : State} (hr : s.running = true) : exec .gradeStart s = .next s.takeGradeStart :=
  congrArg _ (whenRunning_running hr)

section
variable {s : State}

theorem State.gradeStartPosition_fallen {f : Int} (h : s.rail.caps.beat.firstFall = some f) :
    s.gradeStartPosition = some f := by
  rw [State.gradeStartPosition, h]

theorem State.gradeStartPosition_own (h : s.rail.caps.beat.firstFall = none) (hm : s.modes.mode ≠ .listen) :
    s.gradeStartPosition = some 0 := by
  rw [State.gradeStartPosition, h]
  exact if_pos (s.joined_iff.mpr hm)

theorem State.gradeStartPosition_none_iff : s.gradeStartPosition = none ↔
    s.rail.caps.beat.firstFall = none ∧ s.modes.mode = .listen := by
  rw [← State.joined_eq_false_iff]
  unfold State.gradeStartPosition
  cases s.rail.caps.beat.firstFall <;> simp

/-- At most one grade start in a window. -/
theorem State.takeGradeStart_again {g : Int} (h : s.rail.caps.gradeStart = some g) : s.takeGradeStart = s := by
  rw [State.takeGradeStart, h]

theorem State.takeGradeStart_nowhere (h : s.rail.caps.gradeStart = none) (hp : s.gradeStartPosition = none) :
    s.takeGradeStart = s := by
  rw [State.takeGradeStart, h, hp]

theorem State.takeGradeStart_at {p : Int} (h : s.rail.caps.gradeStart = none) (hp : s.gradeStartPosition = some p) :
    s.takeGradeStart = s.pullGrade.openGradeWindow p := by
  rw [State.takeGradeStart, h, hp]

theorem State.pullGrade_listening (hm : s.modes.mode = .listen) : s.pullGrade = s := by
  rw [State.pullGrade, s.joined_eq_false_iff.mpr hm]

theorem State.pullGrade_joined {k : Nat} (hm : s.modes.mode ≠ .listen) (hk : s.modes.grade = some k) :
    s.pullGrade = { s with rail := { s.rail with
      pulses := { s.rail.pulses with grade := some (s.ftu.crystal + 64 * k) }
      caps := { s.rail.caps with pulseGrade := some k } } } := by
  rw [State.pullGrade, s.joined_iff.mpr hm, hk]
  rfl

/-- The pulse of GRADE and the pulse grade are all that a station's pulse writes. -/
theorem State.pullGrade_frame (s : State) : s.pullGrade = { s with rail := { s.rail with
    pulses := { s.rail.pulses with grade := s.pullGrade.rail.pulses.grade }
    caps := { s.rail.caps with pulseGrade := s.pullGrade.rail.caps.pulseGrade } } } := by
  unfold State.pullGrade
  split <;> rfl

/-- The pulse begun at the grade start is low there, and its level is what the opening of the window reads. -/
theorem State.pullGrade_low {k : Nat} (hm : s.modes.mode ≠ .listen) (hk : s.modes.grade = some k) (h1 : 1 ≤ k)
    (hp : s.pins.grade ≠ .heldHigh) : s.pullGrade.ownLow .grade = true ∧ s.pullGrade.lineLow .grade = true := by
  rw [State.pullGrade_joined hm hk]
  have own := State.ownLow_pulled (line := .grade)
    (s := { s with rail := { s.rail with
      pulses := { s.rail.pulses with grade := some (s.ftu.crystal + 64 * k) }
      caps := { s.rail.caps with pulseGrade := some k } } }) rfl (by dsimp only; omega)
  exact ⟨own, State.lineLow_of_ownLow own hp⟩

end

/-- Settles O42: by whether the captures and the mode give a grade start. -/
theorem gradeStart : Obligations.GradeStart := by
  intro s hr
  refine ⟨fun g hg => by rw [exec_gradeStart hr, State.takeGradeStart_again hg], fun hg =>
    ⟨_, exec_gradeStart hr, ?_⟩⟩
  cases hp : s.gradeStartPosition with
  | none =>
    obtain ⟨unfallen, listening⟩ := State.gradeStartPosition_none_iff.mp hp
    rw [State.takeGradeStart_nowhere hg hp, hg]
    refine ⟨rfl, rfl, rfl, nofun, fun f hf => ?_, fun _ hm => absurd listening hm, fun _ _ => rfl,
      fun k hm => absurd listening hm, fun _ => ⟨rfl, rfl⟩, fun _ _ => nofun⟩
    rw [unfallen] at hf
    cases hf
  | some p =>
    have frame := s.pullGrade_frame
    rw [State.takeGradeStart_at hg hp]
    refine ⟨by rw [frame]; rfl, by rw [frame]; rfl, by rw [frame]; rfl, fun _ => ?broken, fun f hf => ?fallen,
      fun hf hm => ?own, fun hf hm => ?nowhere, fun k hm hk => ⟨?pulseGrade, ?pulses, fun hh h1 => ?pulled⟩,
      fun hm => ?listening, fun low hl _ => ?opened⟩
    case broken =>
      have beat : s.pullGrade.lineLow .beat = s.lineLow .beat := by rw [frame]; rfl
      change (!s.pullGrade.lineLow .beat) = true ↔ _
      rw [beat, Bool.not_eq_true']
    case fallen => exact hp.symm.trans (State.gradeStartPosition_fallen hf)
    case own => exact hp.symm.trans (State.gradeStartPosition_own hf hm)
    case nowhere => exact nomatch hp.symm.trans (State.gradeStartPosition_none_iff.mpr ⟨hf, hm⟩)
    case pulseGrade => rw [State.pullGrade_joined hm hk]; rfl
    case pulses => rw [State.pullGrade_joined hm hk]; rfl
    case pulled =>
      obtain ⟨own, low⟩ := State.pullGrade_low hm hk h1 hh
      exact ⟨if_pos low, own⟩
    case listening => rw [State.pullGrade_listening hm]; exact ⟨rfl, rfl⟩
    case opened =>
      have pins : s.pullGrade.pins = s.pins := by rw [frame]
      have read : low = s.pullGrade.lineLow .grade := by
        rw [hl, State.lineLow, pins]
        rfl
      rw [read]
      rfl

/-! The capture of a change (R135, R140, R141, R146, R158) -/

theorem exec_railLineCapture {s : State} (hr : s.running = true) (line : RailLine) (ch : LineChange) (t : Nat) :
    exec (.railLineCapture line ch t) s = .next (s.takeCapture line ch t) := congrArg _ (whenRunning_running hr)

section
variable {s : State} {line : RailLine} {t : Nat} {p q : Int}

theorem State.railPosition_iff
    (hp : p = if s.rail.width = .listen ∨ t ≤ 2047 then (t : Int) else (t : Int) - s.ftu.length) :
    s.railPosition t = some q ↔ q = p ∧
      (s.rail.width = .listen → s.rail.listenWindow = true ∧ t < s.ftu.length) ∧
      (s.rail.width ≠ .listen → -2048 ≤ p ∧ p ≤ 2047) := by
  unfold State.railPosition tickPosition
  cases hw : s.rail.width with
  | listen =>
    rw [hw, if_pos (.inl rfl)] at hp
    dsimp only
    rw [Option.ite_none_right_eq_some, Option.some.injEq, Bool.and_eq_true, decide_eq_true_iff, hp]
    exact ⟨fun ⟨h, e⟩ => ⟨e.symm, fun _ => h, fun hn => absurd rfl hn⟩, fun ⟨e, h, _⟩ => ⟨h rfl, e.symm⟩⟩
  | narrow | wide =>
    simp only [hw, reduceCtorEq, false_or] at hp
    dsimp only
    rw [← hp, Option.ite_none_right_eq_some, Option.some.injEq]
    exact ⟨fun ⟨h, e⟩ => ⟨e.symm, nofun, fun _ => h⟩, fun ⟨e, _, h⟩ => ⟨h nofun, e.symm⟩⟩

theorem State.windowHolds_iff : s.windowHolds line p = true ↔
    (line = .grade → ∃ g, s.rail.caps.gradeStart = some g ∧ g ≤ p ∧ p ≤ g + 511) ∧
    (line ≠ .grade → s.rail.width = .narrow → -256 ≤ p ∧ p ≤ 255) := by
  have grade : s.rail.caps.gradeWindowHolds p = true ↔
      ∃ g, s.rail.caps.gradeStart = some g ∧ g ≤ p ∧ p ≤ g + 511 := by
    unfold Captures.gradeWindowHolds
    cases s.rail.caps.gradeStart <;> simp
  have others : s.rail.width.holds p = true ↔ (s.rail.width = .narrow → -256 ≤ p ∧ p ≤ 255) := by
    unfold WindowWidth.holds
    cases s.rail.width <;> simp
  cases line with
  | grade => simpa [State.windowHolds] using grade
  | beat | lead => simpa [State.windowHolds] using others

theorem State.linePosition_iff :
    s.linePosition line t = some q ↔ s.railPosition t = some q ∧ s.windowHolds line q = true := by
  unfold State.linePosition
  cases s.railPosition t with
  | none => simp
  | some x =>
    dsimp only
    rw [Option.ite_none_right_eq_some]
    constructor
    · rintro ⟨h, ⟨⟩⟩; exact ⟨rfl, h⟩
    · rintro ⟨⟨⟩, h⟩; exact ⟨h, rfl⟩

theorem State.takeCapture_within {ch : LineChange} (h : s.linePosition line t = some p) :
    s.takeCapture line ch t = s.setCaps (s.rail.caps.change line ch p) := by
  rw [State.takeCapture, h]

theorem State.takeCapture_outside {ch : LineChange} (h : s.linePosition line t = none) :
    s.takeCapture line ch t = s := by
  rw [State.takeCapture, h]

end

section
variable (c : Captures) (line : RailLine) (p : Int)

theorem Captures.change_fall : (c.change line .fall p).get line = (c.get line).fall p := Captures.get_put_same ..

theorem Captures.change_rise : (c.change line .rise p).get line = (c.get line).rise p := by
  cases line <;> rfl

/-- A change of one line leaves the captures of the others, the grade start and the pulse grade. -/
theorem Captures.change_others (ch : LineChange) : (∀ l, l ≠ line → (c.change line ch p).get l = c.get l) ∧
    (c.change line ch p).gradeStart = c.gradeStart ∧ (c.change line ch p).pulseGrade = c.pulseGrade := by
  refine ⟨fun l hl => ?_, ?_⟩
  · cases ch with
    | fall => exact c.get_put_ne _ hl
    | rise => cases line <;> cases l <;> simp_all [Captures.change, Captures.get, Captures.put]
  · cases ch <;> cases line <;> exact ⟨rfl, rfl⟩

theorem Captures.change_fall_mark : (c.change line .fall p).markBroken = c.markBroken := by
  cases line <;> rfl

/-- BEAT alone breaks the mark, where it rises within 80 ticks of the grade start (R146). -/
theorem Captures.change_rise_mark : (c.change line .rise p).markBroken = true ↔ c.markBroken = true ∨
    line = .beat ∧ ∃ g, c.gradeStart = some g ∧ g ≤ p ∧ p ≤ g + 80 := by
  have breaks : c.breaksMark p = true ↔ ∃ g, c.gradeStart = some g ∧ g ≤ p ∧ p ≤ g + 80 := by
    unfold Captures.breaksMark
    cases c.gradeStart <;> simp
  rw [← breaks]
  cases line <;> simp [Captures.change, Captures.put]

/-- The last rise after a rise: none before the first fall or at its tick (R141; notes/assumptions/21.md). -/
theorem LineCapture.rise_lastRise (x : LineCapture) : (x.rise p).lastRise =
    match x.firstFall with
    | none => x.lastRise
    | some f => if f < p then some p else x.lastRise := by
  unfold LineCapture.rise LineCapture.risesAt
  cases x.firstFall <;> simp

end

/-- Settles O44: by the position of the tick in the line's window, then by the change. -/
theorem capture : Obligations.Capture := by
  intro s line t p hr hp c inWindow
  have position (q : Int) : s.linePosition line t = some q ↔ q = p ∧ inWindow := by
    rw [State.linePosition_iff, State.railPosition_iff hp]
    constructor
    · rintro ⟨⟨rfl, listen, others⟩, window⟩
      exact ⟨rfl, listen, others, State.windowHolds_iff.mp window⟩
    · rintro ⟨rfl, listen, others, window⟩
      exact ⟨⟨rfl, listen, others⟩, State.windowHolds_iff.mpr window⟩
  refine ⟨fun h => ?within, fun h ch => ?outside⟩
  case outside =>
    have none : s.linePosition line t = none :=
      Option.eq_none_iff_forall_ne_some.mpr fun q hq => h ((position q).mp hq).2
    rw [exec_railLineCapture hr, State.takeCapture_outside none]
  case within =>
    have at_p := (position p).mpr ⟨rfl, h⟩
    refine ⟨⟨_, exec_railLineCapture hr .., ?_⟩, ⟨_, exec_railLineCapture hr .., ?_⟩⟩ <;>
      rw [State.takeCapture_within at_p]
    · obtain ⟨others, start, grade⟩ := c.change_others line p .fall
      have fallen : ((s.setCaps (c.change line .fall p)).rail.caps).get line = (c.get line).fall p :=
        c.change_fall line p
      rw [fallen]
      exact ⟨rfl, rfl, rfl, c.change_fall_mark line p, others, start, grade, rfl⟩
    · obtain ⟨others, start, grade⟩ := c.change_others line p .rise
      have risen : ((s.setCaps (c.change line .rise p)).rail.caps).get line = (c.get line).rise p :=
        c.change_rise line p
      rw [risen]
      exact ⟨rfl, LineCapture.rise_lastRise .., rfl, c.change_rise_mark line p, others, start, grade, rfl⟩

end Sys2Proof.Machine
end

section
/-! PROOFS. What a close forms of its captures (R141 to R143, R152): the span of a line by what its window showed, the
best grade, the results of a joined station's close, and the windows it opens. -/

namespace Sys2Proof.Machine

/-! The span of a line (R141) -/

section
variable {c : LineCapture} {f r : Int} (last : Int)

theorem LineCapture.span_unfallen (hf : c.firstFall = none) : c.span last = none := by
  rw [LineCapture.span, hf]

/-- A line still low rises at the tick after its window. -/
theorem LineCapture.span_low (hf : c.firstFall = some f) (hl : c.low = some true) :
    c.span last = some (f, last + 1) := by
  rw [LineCapture.span, hf]
  exact if_pos hl

theorem LineCapture.span_risen (hf : c.firstFall = some f) (hl : c.low = some false) (hr : c.lastRise = some r) :
    c.span last = some (f, r) := by
  rw [LineCapture.span, hf, hl, hr]
  rfl

/-- A first fall with no low level and no rise after it is no pulse (R152; notes/assumptions/21.md). -/
theorem LineCapture.span_unrisen (hl : c.low ≠ some true) (hr : c.lastRise = none) : c.span last = none := by
  unfold LineCapture.span
  split
  · rfl
  · rw [if_neg hl, hr]

end

/-! The best grade (R142) -/

section
variable {c : Captures} {g f r last : Int}

theorem Captures.bestGrade_unopened (hg : c.gradeStart = none) : c.bestGrade last = 0 := by
  rw [Captures.bestGrade, hg]

theorem Captures.bestGrade_unshown (hg : c.gradeStart = some g)
    (hs : c.grade.span (gradeWindowEnd g last) = none) : c.bestGrade last = 0 := by
  simp only [Captures.bestGrade, hg, hs]

theorem Captures.bestGrade_shown (hg : c.gradeStart = some g)
    (hs : c.grade.span (gradeWindowEnd g last) = some (f, r)) :
    (c.bestGrade last : Int) = max 1 (min 7 ((r - f + 32) / 64)) := by
  simp only [Captures.bestGrade, hg, hs]
  (repeat' split) <;> omega

theorem Captures.bestGrade_le (c : Captures) (last : Int) : c.bestGrade last ≤ 7 := by
  cases hg : c.gradeStart with
  | none => rw [Captures.bestGrade_unopened hg]; exact Nat.zero_le _
  | some g =>
    cases hs : c.grade.span (gradeWindowEnd g last) with
    | none => rw [Captures.bestGrade_unshown hg hs]; exact Nat.zero_le _
    | some q =>
      have shown := Captures.bestGrade_shown hg hs
      omega

end

/-- Settles O45: by the span of GRADE, its window ending after 512 ticks or at the tick that cuts it. -/
theorem bestGrade : Obligations.BestGrade := by
  intro c last f r g hg
  refine ⟨fun hf hl hr => ?risen, fun hf hl he => ?whole, fun hf hl he => ?cut, fun hf => ?unfallen,
    Captures.bestGrade_unopened rfl⟩
  case risen => exact Captures.bestGrade_shown hg (LineCapture.span_risen _ hf hl hr)
  case whole =>
    rw [Captures.bestGrade_shown hg (LineCapture.span_low _ hf hl), gradeWindowEnd, if_pos he]
    omega
  case cut => rw [Captures.bestGrade_shown hg (LineCapture.span_low _ hf hl), gradeWindowEnd, if_neg (by omega)]
  case unfallen => exact Captures.bestGrade_unshown hg (LineCapture.span_unfallen _ hf)

/-! The results of a close (R142, R143) -/

theorem State.formResults_rail (s : State) (c : Captures) (last cut : Int) :
    (s.formResults c last cut).rail = { s.rail with
      bestGrade := c.bestGrade cut
      railError := if s.joined then (c.lead.span last).map (fun q => railErrorOf q.1 q.2) else none
      leadSpread := ((c.lead.span last).map fun q => q.2 - q.1).getD 0 } := by
  unfold State.formResults
  cases c.lead.span last <;> rfl

section
variable {s : State} (hj : s.joined = true)
include hj

/-- A joined station forms its results from the windows in force, GRADE cut by the close alone (R140). -/
theorem State.takeClose_forms : s.takeClose.rail.bestGrade = s.rail.caps.bestGrade 2047 ∧
    s.takeClose.rail.railError =
      (s.rail.caps.lead.span s.rail.width.lastPosition).map (fun q => railErrorOf q.1 q.2) ∧
    s.takeClose.rail.leadSpread =
      ((s.rail.caps.lead.span s.rail.width.lastPosition).map fun q => q.2 - q.1).getD 0 := by
  obtain ⟨best, error, spread⟩ := s.takeClose_results
  rw [best, error, spread, State.formAtClose, if_pos hj, State.formResults_rail, if_pos hj]
  exact ⟨rfl, rfl, rfl⟩

/-- LEAD fell at f and rose at r. -/
theorem State.takeClose_lead {f r : Int} (h : s.rail.caps.lead.span s.rail.width.lastPosition = some (f, r)) :
    s.takeClose.rail.railError = some (max (-512) (min 512 (f + r - 32))) ∧
      s.takeClose.rail.leadSpread = r - f := by
  obtain ⟨-, error, spread⟩ := State.takeClose_forms hj
  rw [error, spread, h, ← clampTo_maxError]
  exact ⟨rfl, rfl⟩

theorem State.takeClose_no_lead (h : s.rail.caps.lead.span s.rail.width.lastPosition = none) :
    s.takeClose.rail.railError = none ∧ s.takeClose.rail.leadSpread = 0 := by
  obtain ⟨-, error, spread⟩ := State.takeClose_forms hj
  rw [error, spread, h]
  exact ⟨rfl, rfl⟩

end

/-! The windows that a close opens (R140, R141) -/

/-- The marks read what the close found: the timing blocks leave all of it. -/
theorem State.timedClose_marks (s : State) : s.timedClose.SameMarks s :=
  (State.closeModes_marks _ _).trans s.formAtClose_marks

theorem State.closeDone_joined (s : State) : s.closeDone.joined = s.joined := by
  have listened : s.closeDone.joined = s.timedClose.marksAtClose.joined := by
    simp only [State.joined, State.closeDone, State.listenAtClose_modes]
  rw [listened, State.marksAtClose_joined, s.timedClose_marks.joined]

/-- The next windows of a joined station are narrow or wide by the gain set, with nothing captured. -/
theorem State.takeClose_windows {s : State} (hj : s.joined = true) : s.takeClose.rail.caps = Captures.blank ∧
    s.takeClose.rail.width = match s.takeClose.ftu.gain with
      | .track => .narrow
      | .acquire => .wide := by
  have joined := s.closeDone_joined.trans hj
  rw [State.takeClose_eq]
  generalize s.closeDone = x at joined ⊢
  have width : x.regrade.nextWidth = match x.ftu.gain with
      | .track => .narrow
      | .acquire => .wide := if_pos joined
  refine ⟨if_neg ?_, width⟩
  rw [width]
  cases x.ftu.gain <;> decide

/-- Settles O46: by the span of LEAD in the window of its width. -/
theorem closeForms : Obligations.CloseForms := by
  intro s hr hm
  have hj := s.joined_iff.mpr hm
  obtain ⟨best, -⟩ := State.takeClose_forms hj
  obtain ⟨caps, width⟩ := State.takeClose_windows hj
  refine ⟨_, exec_measurementClose hr, best, fun f r hf hl hr => ?risen, fun f last hf hl hw => ?low,
    fun hl hr => ?unrisen, fun hf => ?unfallen, caps, fun h => by rw [width, h], fun h => by rw [width, h]⟩
  case risen => exact State.takeClose_lead hj (LineCapture.span_risen _ hf hl hr)
  case low =>
    have ends : s.rail.width.lastPosition = last := by
      rcases hw with ⟨hw, rfl⟩ | ⟨hw, rfl⟩ <;> rw [hw] <;> rfl
    rw [← ends]
    exact State.takeClose_lead hj (LineCapture.span_low _ hf hl)
  case unrisen => exact State.takeClose_no_lead hj (LineCapture.span_unrisen _ hl hr)
  case unfallen => exact State.takeClose_no_lead hj (LineCapture.span_unfallen _ hf)

end Sys2Proof.Machine
end

section
/-! PROOFS. The multiframe marks at a close (R146 to R150): the mark set, the candidate and its run, the relabel with its
pace, and the marks of every other close. -/

namespace Sys2Proof.Machine

/-! What a close keeps of the marks' work -/

/-- The same in all that the marks of a close write besides the index request. -/
structure State.SameMarkState (a b : State) : Prop where
  marks : a.rail.markSet = b.rail.markSet
  cand : a.rail.markCand = b.rail.markCand
  run : a.rail.markRun = b.rail.markRun
  backoff : a.rail.backoff = b.rail.backoff
  stamps : a.rail.relabelStamps = b.rail.relabelStamps
  relabels : a.counters.relabels = b.counters.relabels
  flag : a.flags.relabel = b.flags.relabel

/-- The marks follow the timing blocks, and nothing at the close comes after them that writes their state. -/
theorem State.takeClose_markState (s : State) : s.takeClose.SameMarkState s.timedClose.marksAtClose := by
  obtain ⟨rail, counters, flag⟩ := s.timedClose.marksAtClose.listenAtClose_marks s.rail.held
  have done : s.closeDone.SameMarkState s.timedClose.marksAtClose := by
    refine ⟨?_, ?_, ?_, ?_, ?_, congrArg _ counters, flag⟩ <;> exact congrArg _ rail
  rw [State.takeClose_eq]
  generalize s.closeDone = x at done ⊢
  exact { done with }

/-- At a joined station's close the marks' index request stands (R149, R159). -/
theorem State.takeClose_indexRequest {s : State} (hj : s.joined = true) :
    s.takeClose.ftu.indexRequest = s.timedClose.marksAtClose.ftu.indexRequest := by
  have joined : s.timedClose.marksAtClose.joined = true :=
    (State.marksAtClose_joined _).trans (s.timedClose_marks.joined.trans hj)
  have done : s.closeDone = s.timedClose.marksAtClose := State.listenAtClose_joined joined _
  rw [State.takeClose_eq, done]
  rfl

/-! The mark set (R146) -/

/-- The narrow window showed a mark: BEAT low for 80 ticks from the grade start, within the window. -/
def Captures.ShowsMark (c : Captures) : Prop :=
  ∃ g, c.gradeStart = some g ∧ c.markBroken = false ∧ g + 80 ≤ 255

theorem Captures.markSeen_narrow (c : Captures) : c.markSeen 255 = true ↔ c.ShowsMark := c.markSeen_iff 255

section
variable {s : State}

theorem State.noteMark_wide (hw : s.rail.width ≠ .narrow) :
    s.noteMark = { s with rail := s.rail.clearMarks } := if_neg hw

/-- With the window narrow a mark adds the index of its frame to the set, and nothing else changes. -/
theorem State.noteMark_narrow (hw : s.rail.width = .narrow) :
    ∃ m : List Nat, s.noteMark = { s with rail := { s.rail with markSet := m } } ∧
      ((∀ k ∈ s.rail.markSet, 1 ≤ k ∧ k ≤ 7) → ∀ k, k ∈ m ↔ k ∈ s.rail.markSet ∨
        k = s.ftu.officeIndex.toNat ∧ s.ftu.officeIndex ≠ 0 ∧ s.rail.caps.ShowsMark) := by
  rw [State.noteMark, if_pos hw]
  split
  case isTrue h =>
    simp only [Bool.and_eq_true, Captures.markSeen_narrow, decide_eq_true_eq] at h
    obtain ⟨seen, index⟩ := h
    have range : 1 ≤ s.ftu.officeIndex.toNat ∧ s.ftu.officeIndex.toNat ≤ 7 := by bv_omega
    refine ⟨_, rfl, fun marks k => (addMark_mem _ _ _ marks range).trans (or_congr_right ?_)⟩
    exact ⟨fun h => ⟨h, index, seen⟩, And.left⟩
  case isFalse h =>
    simp only [Bool.and_eq_true, Captures.markSeen_narrow, decide_eq_true_eq] at h
    exact ⟨_, rfl, fun _ k => ⟨.inl, fun h' => h'.resolve_right fun ⟨_, index, seen⟩ => h ⟨seen, index⟩⟩⟩

end

/-! Candidate and run (R147) -/

/-- The indices of the multiframe at its close: those of the mark set, and 7 for a mark in the index-7 frame itself. -/
def Rail.Shown (r : Rail) (k : Nat) : Prop := k ∈ r.markSet ∨ k = 7 ∧ r.caps.ShowsMark

/-- The candidate and the run that follow where `shown` are the indices of the multiframe: the old candidate with a
longer run, the lowest index as a new one, or none. -/
def Rail.Counted (r : Rail) (shown : Nat → Prop) (cand : Option Nat) (run : Nat) : Prop :=
  (∃ k, r.markCand = some k ∧ shown k ∧ cand = some k ∧ run = min 4 (r.markRun + 1)) ∨
  ((∀ k, r.markCand = some k → ¬ shown k) ∧
    ∃ k, shown k ∧ (∀ j, shown j → k ≤ j) ∧ cand = some k ∧ run = 1) ∨
  ((∀ k, ¬ shown k) ∧ cand = none ∧ run = 0)

theorem Rail.countMark_eq {r : Rail} {shown : Nat → Prop} {cand : Option Nat} {run : Nat}
    (members : ∀ k, k ∈ r.markSet ↔ shown k) (h : r.Counted shown cand run) :
    r.countMark = { r with markCand := cand, markRun := run } := by
  rcases h with ⟨k, hc, hk, rfl, rfl⟩ | ⟨hc, k, hk, least, rfl, rfl⟩ | ⟨empty, rfl, rfl⟩
  · have hk' := (members k).mpr hk
    obtain ⟨j, hj⟩ := Option.isSome_iff_exists.mp (List.isSome_min?_of_mem hk')
    simp only [Rail.countMark, hj, hc]
    rw [if_pos (List.contains_iff_mem.mpr hk'), satSucc_eq_min]
  · have lowest : r.markSet.min? = some k :=
      List.min?_eq_some_iff.mpr ⟨(members k).mpr hk, fun j hj => least j ((members j).mp hj)⟩
    unfold Rail.countMark
    rw [lowest]
    cases hm : r.markCand with
    | none => rfl
    | some c => exact if_neg fun h => hc c hm ((members c).mp (List.contains_iff_mem.mp h))
  · have none : r.markSet = [] := List.eq_nil_iff_forall_not_mem.mpr fun k hk => empty k ((members k).mp hk)
    rw [Rail.countMark, none]
    rfl

/-! The relabel test, the relabel and its pace (R148 to R150) -/

/-- Candidate k with the run given is to be relabelled by: the test of R148. -/
def Rail.RelabelDue (r : Rail) (run k : Nat) : Prop :=
  if r.drivingLead = true then 4 ≤ run ∧ (k ≤ 3 ∨ k = 4 ∧ r.backoff = 0) else 2 ≤ run

theorem Rail.relabelPasses_iff (r : Rail) (k : Nat) : r.relabelPasses k = true ↔ r.RelabelDue r.markRun k := by
  unfold Rail.relabelPasses Rail.RelabelDue
  cases r.drivingLead with
  | false => simp
  | true =>
    rcases Nat.lt_trichotomy k 4 with h | rfl | h
    · simp [show k ≤ 3 by omega]
    · simp
    · simp [show ¬ k ≤ 3 by omega, show k ≠ 4 by omega]

theorem State.relabelBy_eq (s : State) (k : Nat) : s.relabelBy k = { s with
    ftu := { s.ftu with indexRequest := some (.relabel (BitVec.ofNat 3 k)) }
    counters := { s.counters with relabels := s.counters.relabels + 1 }
    rail := { s.rail with
      backoff := 8 * (s.straps.stn.val + 1)
      markCand := none
      markRun := 0
      relabelStamps := pushStamp s.rail.relabelStamps s.stamp }
    flags := if relabelPace (pushStamp s.rail.relabelStamps s.stamp) then s.flags.raise .relabel else s.flags } := by
  unfold State.relabelBy
  dsimp only
  split <;> rfl

/-- The new stamp is the last one kept. -/
theorem pushStamp_eq (stamps : List Stamp) (x : Stamp) :
    pushStamp stamps x = stamps.drop (stamps.length - 7) ++ [x] := by
  unfold pushStamp
  dsimp only
  rw [List.drop_append_of_le_length (by simp)]
  congr 2
  simp only [List.length_append, List.length_singleton]
  omega

/-- Eight stamps are measured from the first to the new one. -/
theorem relabelPace_full {stamps rest : List Stamp} {a x : Stamp} (h : pushStamp stamps x = a :: rest)
    (hr : rest.length = 7) : relabelPace (pushStamp stamps x) = decide (stampDistance a x < 8000) := by
  have last : rest.getLastD a = x := by
    rw [← List.getLastD_cons (a := a) (b := a), ← h, pushStamp_eq, List.getLastD_concat]
  rw [h, relabelPace, last, decide_eq_true (by rw [List.length_cons, hr]), Bool.true_and]

theorem relabelPace_short {stamps : List Stamp} (h : stamps.length < 8) : relabelPace stamps = false := by
  unfold relabelPace
  split
  · rw [decide_eq_false (Nat.ne_of_lt h), Bool.false_and]
  · rfl

/-! The multiframe close (R147) -/

section
variable {s : State} {cand : Option Nat} {run : Nat}
  (counted : s.rail.countMark = { s.rail with markCand := cand, markRun := run })
include counted

/-- The candidate passes the relabel test: the relabel, and the mark set emptied. -/
theorem State.closeMultiframe_relabels {k : Nat} (hk : cand = some k) (due : s.rail.RelabelDue run k) :
    s.closeMultiframe = { s with
      ftu := { s.ftu with indexRequest := some (.relabel (BitVec.ofNat 3 k)) }
      counters := { s.counters with relabels := s.counters.relabels + 1 }
      rail := { s.rail with
        markSet := []
        backoff := 8 * (s.straps.stn.val + 1)
        markCand := none
        markRun := 0
        relabelStamps := pushStamp s.rail.relabelStamps s.stamp }
      flags := if relabelPace (pushStamp s.rail.relabelStamps s.stamp) then s.flags.raise .relabel
        else s.flags } := by
  have test : ({ s.rail with markCand := some k, markRun := run } : Rail).relabelPasses k = true :=
    (Rail.relabelPasses_iff ..).mpr due
  simp only [State.closeMultiframe, counted, hk, State.relabelStep, test, if_true, State.relabelBy_eq]
  rfl

/-- It does not, or there is none: the backoff counts down. -/
theorem State.closeMultiframe_waits (fails : ¬ ∃ k, cand = some k ∧ s.rail.RelabelDue run k) :
    s.closeMultiframe = { s with rail := { s.rail with
      markSet := [], markCand := cand, markRun := run, backoff := s.rail.backoff - 1 } } := by
  unfold State.closeMultiframe
  dsimp only
  rw [counted]
  cases cand with
  | none => rfl
  | some k =>
    have test : ({ s.rail with markCand := some k, markRun := run } : Rail).relabelPasses k = false :=
      Bool.eq_false_iff.mpr fun h => fails ⟨k, rfl, (Rail.relabelPasses_iff ..).mp h⟩
    simp only [State.relabelStep, test]
    rfl

end

/-! The marks by mode and width (R146, R147) -/

section
variable {s : State}

/-- With the window wide the mark state is emptied, also at a multiframe close, where no candidate is left. -/
theorem State.marksAtClose_wide (hj : s.joined = true) (hw : s.rail.width ≠ .narrow) :
    s.marksAtClose = { s with rail := { s.rail.clearMarks with
      backoff := if s.ftu.officeIndex = 7 then s.rail.backoff - 1 else s.rail.backoff } } := by
  rw [State.marksAtClose, if_pos hj, State.noteMark_wide hw]
  split
  · refine State.closeMultiframe_waits (cand := none) (run := 0) rfl ?_
    rintro ⟨k, ⟨⟩, -⟩
  · rfl

/-- In LISTEN the backoff alone counts down. -/
theorem State.marksAtClose_listening (hj : s.joined = false) :
    s.marksAtClose = { s with rail := { s.rail with
      backoff := if s.ftu.officeIndex = 7 then s.rail.backoff - 1 else s.rail.backoff } } := by
  rw [State.marksAtClose, hj, if_neg Bool.false_ne_true]
  split <;> rfl

end

/-- What leaves the marks' state leaves the candidate and the run that follow from it, and the relabel test. -/
theorem State.SameMarks.counted {x s : State} (same : x.SameMarks s) {cand : Option Nat} {run : Nat}
    (h : s.rail.Counted s.rail.Shown cand run) : x.rail.Counted x.rail.Shown cand run := by
  have shown : x.rail.Shown = s.rail.Shown := by
    unfold Rail.Shown
    rw [same.marks, same.caps]
  unfold Rail.Counted
  rw [shown, same.cand, same.run]
  exact h

theorem State.SameMarks.relabelDue {x s : State} (same : x.SameMarks s) (run k : Nat) :
    x.rail.RelabelDue run k ↔ s.rail.RelabelDue run k := by
  rw [Rail.RelabelDue, same.lead, same.backoff]
  exact .rfl

/-! A joined station's multiframe close -/

section
variable {s : State} (hj : s.joined = true) (hw : s.rail.width = .narrow) (h7 : s.ftu.officeIndex = 7)
  (marks : ∀ k ∈ s.rail.markSet, 1 ≤ k ∧ k ≤ 7) {cand : Option Nat} {run : Nat}
  (counted : s.rail.Counted s.rail.Shown cand run)
include hj hw h7 marks counted

/-- The multiframe close counts a mark of the index-7 frame itself with the others. -/
theorem State.marksAtClose_multiframe : ∃ m : List Nat,
    s.marksAtClose = ({ s with rail := { s.rail with markSet := m } } : State).closeMultiframe ∧
    ({ s.rail with markSet := m } : Rail).countMark =
      { s.rail with markSet := m, markCand := cand, markRun := run } := by
  obtain ⟨m, noted, members⟩ := State.noteMark_narrow hw
  refine ⟨m, by rw [State.marksAtClose, if_pos hj, if_pos h7, noted], ?_⟩
  refine Rail.countMark_eq (r := { s.rail with markSet := m }) (fun k => (members marks k).trans ?_) counted
  simp [Rail.Shown, h7]

/-- The candidate passes the relabel test. -/
theorem State.marksAtClose_relabels {k : Nat} (hk : cand = some k) (due : s.rail.RelabelDue run k) :
    s.marksAtClose = { s with
      ftu := { s.ftu with indexRequest := some (.relabel (BitVec.ofNat 3 k)) }
      counters := { s.counters with relabels := s.counters.relabels + 1 }
      rail := { s.rail with
        markSet := []
        backoff := 8 * (s.straps.stn.val + 1)
        markCand := none
        markRun := 0
        relabelStamps := pushStamp s.rail.relabelStamps s.stamp }
      flags := if relabelPace (pushStamp s.rail.relabelStamps s.stamp) then s.flags.raise .relabel
        else s.flags } := by
  obtain ⟨m, closed, candidate⟩ := State.marksAtClose_multiframe hj hw h7 marks counted
  exact closed.trans (State.closeMultiframe_relabels candidate hk due)

/-- No candidate passes it. -/
theorem State.marksAtClose_waits (fails : ¬ ∃ k, cand = some k ∧ s.rail.RelabelDue run k) :
    s.marksAtClose = { s with rail := { s.rail with
      markSet := [], markCand := cand, markRun := run, backoff := s.rail.backoff - 1 } } := by
  obtain ⟨m, closed, candidate⟩ := State.marksAtClose_multiframe hj hw h7 marks counted
  exact closed.trans (State.closeMultiframe_waits candidate fails)

/-- The relabel at a close (R149, R150). -/
theorem State.takeClose_relabels {k : Nat} (hk : cand = some k) (due : s.rail.RelabelDue run k) :
    s.takeClose.rail.markSet = [] ∧ s.takeClose.ftu.indexRequest = some (.relabel (BitVec.ofNat 3 k)) ∧
    s.takeClose.counters.relabels = s.counters.relabels + 1 ∧
    s.takeClose.rail.backoff = 8 * (s.straps.stn.val + 1) ∧ s.takeClose.rail.markCand = none ∧
    s.takeClose.rail.markRun = 0 ∧ s.takeClose.rail.relabelStamps = pushStamp s.rail.relabelStamps s.stamp ∧
    s.takeClose.flags.relabel =
      if relabelPace (pushStamp s.rail.relabelStamps s.stamp) then s.flags.relabel.raise else s.flags.relabel := by
  have same := s.timedClose_marks
  have left := s.takeClose_markState
  have request := State.takeClose_indexRequest hj
  have closed := State.marksAtClose_relabels (s := s.timedClose) (same.joined.trans hj) (same.width.trans hw)
    (same.index.trans h7) (same.marks ▸ marks) (same.counted counted) hk ((same.relabelDue ..).mpr due)
  rw [left.marks, left.cand, left.run, left.backoff, left.stamps, left.relabels, left.flag, request, closed,
    ← same.relabels, ← same.straps, ← same.stamps, ← same.stamp, ← same.flag]
  refine ⟨rfl, rfl, rfl, rfl, rfl, rfl, rfl, ?_⟩
  dsimp only
  split <;> rfl

/-- A close without a relabel (R147). -/
theorem State.takeClose_waits (fails : ¬ ∃ k, cand = some k ∧ s.rail.RelabelDue run k) :
    s.takeClose.rail.markSet = [] ∧ s.takeClose.ftu.indexRequest = s.ftu.indexRequest ∧
    s.takeClose.counters.relabels = s.counters.relabels ∧ s.takeClose.rail.markCand = cand ∧
    s.takeClose.rail.markRun = run ∧ s.takeClose.rail.backoff = s.rail.backoff - 1 ∧
    s.takeClose.rail.relabelStamps = s.rail.relabelStamps ∧ s.takeClose.flags.relabel = s.flags.relabel := by
  have same := s.timedClose_marks
  have left := s.takeClose_markState
  have request := State.takeClose_indexRequest hj
  have closed := State.marksAtClose_waits (s := s.timedClose) (same.joined.trans hj) (same.width.trans hw)
    (same.index.trans h7) (same.marks ▸ marks) (same.counted counted)
    fun ⟨k, hk, due⟩ => fails ⟨k, hk, (same.relabelDue ..).mp due⟩
  rw [left.marks, left.cand, left.run, left.backoff, left.stamps, left.relabels, left.flag, request, closed,
    ← same.relabels, ← same.backoff, ← same.stamps, ← same.flag, ← same.request]
  exact ⟨rfl, rfl, rfl, rfl, rfl, rfl, rfl, rfl⟩

end

/-! The marks of the other closes -/

/-- Where the marks do no more than write the mark state, the close shows what they wrote and nothing of a relabel. -/
theorem State.takeClose_unlabelled {s : State} {marks : List Nat} {cand : Option Nat} {run backoff : Nat}
    (h : s.timedClose.marksAtClose = { s.timedClose with rail := { s.timedClose.rail with
      markSet := marks, markCand := cand, markRun := run, backoff := backoff } }) :
    (s.takeClose.rail.markSet = marks ∧ s.takeClose.rail.markCand = cand ∧ s.takeClose.rail.markRun = run ∧
      s.takeClose.rail.backoff = backoff) ∧
    s.takeClose.counters.relabels = s.counters.relabels ∧
    s.takeClose.rail.relabelStamps = s.rail.relabelStamps ∧ s.takeClose.flags.relabel = s.flags.relabel := by
  have same := s.timedClose_marks
  have left := s.takeClose_markState
  rw [left.marks, left.cand, left.run, left.backoff, left.stamps, left.relabels, left.flag, h, ← same.relabels,
    ← same.stamps, ← same.flag]
  exact ⟨⟨rfl, rfl, rfl, rfl⟩, rfl, rfl, rfl⟩

section
variable {s : State}

/-- The close of a joined station with the window wide. -/
theorem State.takeClose_wide (hj : s.joined = true) (hw : s.rail.width ≠ .narrow) :
    (s.takeClose.rail.markSet = [] ∧ s.takeClose.rail.markCand = none ∧ s.takeClose.rail.markRun = 0 ∧
      s.takeClose.rail.backoff = if s.ftu.officeIndex = 7 then s.rail.backoff - 1 else s.rail.backoff) ∧
    s.takeClose.counters.relabels = s.counters.relabels ∧
    s.takeClose.rail.relabelStamps = s.rail.relabelStamps ∧ s.takeClose.flags.relabel = s.flags.relabel := by
  have same := s.timedClose_marks
  rw [← same.index, ← same.backoff]
  exact State.takeClose_unlabelled (State.marksAtClose_wide (same.joined.trans hj) (same.width ▸ hw))

/-- The close of a station in LISTEN. -/
theorem State.takeClose_listening_marks (hj : s.joined = false) :
    (s.takeClose.rail.markSet = s.rail.markSet ∧ s.takeClose.rail.markCand = s.rail.markCand ∧
      s.takeClose.rail.markRun = s.rail.markRun ∧
      s.takeClose.rail.backoff = if s.ftu.officeIndex = 7 then s.rail.backoff - 1 else s.rail.backoff) ∧
    s.takeClose.counters.relabels = s.counters.relabels ∧
    s.takeClose.rail.relabelStamps = s.rail.relabelStamps ∧ s.takeClose.flags.relabel = s.flags.relabel := by
  have same := s.timedClose_marks
  rw [← same.index, ← same.backoff, ← same.marks, ← same.cand, ← same.run]
  exact State.takeClose_unlabelled (State.marksAtClose_listening (same.joined.trans hj))

/-- The close of another frame of the multiframe, with the window narrow. -/
theorem State.takeClose_within (hj : s.joined = true) (hw : s.rail.width = .narrow) (h7 : s.ftu.officeIndex ≠ 7) :
    ∃ m : List Nat,
    ((∀ k ∈ s.rail.markSet, 1 ≤ k ∧ k ≤ 7) → ∀ k, k ∈ m ↔ k ∈ s.rail.markSet ∨
      k = s.ftu.officeIndex.toNat ∧ s.ftu.officeIndex ≠ 0 ∧ s.rail.caps.ShowsMark) ∧
    (s.takeClose.rail.markSet = m ∧ s.takeClose.rail.markCand = s.rail.markCand ∧
      s.takeClose.rail.markRun = s.rail.markRun ∧ s.takeClose.rail.backoff = s.rail.backoff) ∧
    s.takeClose.counters.relabels = s.counters.relabels ∧
    s.takeClose.rail.relabelStamps = s.rail.relabelStamps ∧ s.takeClose.flags.relabel = s.flags.relabel := by
  have same := s.timedClose_marks
  obtain ⟨m, noted, members⟩ := State.noteMark_narrow (same.width.trans hw)
  rw [same.marks, same.index, same.caps] at members
  refine ⟨m, members, ?_⟩
  rw [← same.backoff, ← same.cand, ← same.run]
  refine State.takeClose_unlabelled ?_
  rw [State.marksAtClose, if_pos (same.joined.trans hj), if_neg (same.index ▸ h7), noted]

end

/-- Settles O47: the multiframe close by the relabel test, the others by mode and width. -/
theorem relabel : Obligations.Relabel := by
  refine ⟨fun s cand run hr hm hw h7 marks counted => ⟨_, exec_measurementClose hr, ?multiframe⟩, fun s hr =>
    ⟨_, exec_measurementClose hr, ?others⟩⟩
  case multiframe =>
    have hj := s.joined_iff.mpr hm
    intro passes
    by_cases hp : passes
    case pos =>
      obtain ⟨k, hk, test⟩ := hp
      obtain ⟨empty, request, relabels, backoff, candidate, zero, stamps, flag⟩ :=
        State.takeClose_relabels hj hw h7 marks counted hk test
      refine ⟨empty, fun _ => ⟨fun j hjk => ?_, relabels, backoff, candidate, zero, fun h => ?_, fun a rest h hl => ?_,
        fun a rest h hl => ?_, fun h => ?_⟩, fun h => absurd ⟨k, hk, test⟩ h⟩
      · obtain rfl := Option.some.inj (hk.symm.trans hjk)
        exact request
      · rw [stamps, pushStamp_short _ _ h]
      · rw [stamps, h, pushStamp_full _ _ _ hl]
      · rw [flag, relabelPace_full (stamps.symm.trans h) hl]
        simp only [decide_eq_true_eq]
        rfl
      · rw [flag, ← stamps, relabelPace_short h, if_neg Bool.false_ne_true]
    case neg =>
      obtain ⟨empty, request, relabels, candidate, count, backoff, stamps, flag⟩ :=
        State.takeClose_waits hj hw h7 marks counted hp
      exact ⟨empty, fun h => absurd h hp, fun _ => ⟨request, relabels, candidate, count, backoff, stamps, flag⟩⟩
  case others =>
    intro seen counted
    refine ⟨fun hm hw h7 marks => ?within, fun hm hw => ?wide, fun hm => ?listening, fun h => ?unlabelled⟩
    case within =>
      obtain ⟨m, members, ⟨rfl, rest⟩, -⟩ := State.takeClose_within (s.joined_iff.mpr hm) hw h7
      exact ⟨members marks, rest⟩
    case wide => exact (State.takeClose_wide (s.joined_iff.mpr hm) hw).1
    case listening => exact (State.takeClose_listening_marks (s.joined_eq_false_iff.mpr hm)).1
    case unlabelled =>
      by_cases hm : s.modes.mode = .listen
      · exact (State.takeClose_listening_marks (s.joined_eq_false_iff.mpr hm)).2
      · have hj := s.joined_iff.mpr hm
        by_cases hw : s.rail.width = .narrow
        · obtain ⟨m, -, -, same⟩ :=
            State.takeClose_within hj hw ((h.resolve_left hm).resolve_left (not_not_intro hw))
          exact same
        · exact (State.takeClose_wide hj hw).2

end Sys2Proof.Machine
end

section
/-! PROOFS. The ranges of the rail interface (R136, R142 to R144, R147, R149, R150): kept by each of its own
operations, by each block that writes to it, and so by every step. -/

namespace Sys2Proof.Machine

/-! The rail's own operations -/

/-- Whatever a mark set held, with an index added it holds indices 1 to 7 alone (R146). -/
theorem addMark_range {marks : List Nat} {k j : Nat} (h : j ∈ addMark marks k) : 1 ≤ j ∧ j ≤ 7 := by
  have indices : ∀ i ∈ markIndices, 1 ≤ i ∧ i ≤ 7 := by decide
  exact indices j (List.mem_of_mem_filter h)

theorem pushStamp_length_le (stamps : List Stamp) (x : Stamp) : (pushStamp stamps x).length ≤ 8 := by
  unfold pushStamp
  simp only [List.length_drop]
  omega

section
variable {r : Rail} (h : r.Ranges)
include h

/-- The lead-absent run ended, as every change of mode ends it (R144). -/
theorem Rail.Ranges.endRun : { r with leadAbsentRun := 0 : Rail }.Ranges := { h with leadAbsent := Nat.zero_lt_succ _ }

theorem Rail.Ranges.clearMarks : r.clearMarks.Ranges :=
  { h with marks := nofun, markCand := nofun, markRun := Nat.zero_le _ }

/-- A new candidate is an index of the mark set. -/
theorem Rail.Ranges.newCandidate {k : Nat} (hk : k ∈ r.markSet) :
    { r with markCand := some k, markRun := 1 : Rail }.Ranges :=
  { h with markCand := fun _ hj => Option.some.inj hj ▸ h.marks k hk, markRun := Nat.le_add_left 1 3 }

/-- The candidate is new, none, or stays with a run that stops at 4 (R147). -/
theorem Rail.Ranges.countMark : r.countMark.Ranges := by
  unfold Rail.countMark
  split
  next => exact { h with markCand := nofun, markRun := Nat.zero_le _ }
  next k hk _ => exact h.newCandidate (List.min?_mem hk)
  next k c hk _ =>
    split
    · exact { h with markRun := by dsimp only; rw [satSucc_eq_min]; exact min_le_left .. }
    · exact h.newCandidate (List.min?_mem hk)

end

/-! Reference events -/

/-- What a reference event can do to the rail: nothing, or with a change of mode end the lead-absent run (R144). -/
def Rail.KeptOrRunEnded (r q : Rail) : Prop := q = r ∨ q = { r with leadAbsentRun := 0 }

theorem Rail.KeptOrRunEnded.ranges {r q : Rail} (e : r.KeptOrRunEnded q) (h : r.Ranges) : q.Ranges := by
  rcases e with rfl | rfl
  · exact h
  · exact h.endRun

section
variable (s : State) (r : RefId)

theorem State.noteQualified_run : s.rail.KeptOrRunEnded s.noteQualified.rail := by
  unfold State.noteQualified State.evaluateSelector
  (repeat' split)
  · exact .inl rfl
  · exact .inr rfl
  all_goals exact .inl rfl

theorem State.loseReference_run : s.rail.KeptOrRunEnded (s.loseReference r).rail := by
  obtain ⟨-, -, -, -, -, rail, -⟩ := s.lossNoted_beside r
  rw [State.loseReference_eq, ← rail]
  split
  · unfold State.loseSelected
    dsimp only
    split
    · exact .inl rfl
    · exact .inr rfl
  · exact .inl rfl

theorem State.impair_run : s.rail.KeptOrRunEnded (s.impair r).rail := by
  unfold State.impair
  dsimp only
  split
  · exact s.loseReference_run r
  · exact .inl (s.setMonitor_rail ..)

theorem State.judgeInterval_run (i : Interval) : s.rail.KeptOrRunEnded (s.judgeInterval r i).rail := by
  have set (m : Monitor) : s.rail.KeptOrRunEnded (s.setMonitor r m).rail := .inl (s.setMonitor_rail ..)
  have noted (m : Monitor) : s.rail.KeptOrRunEnded (s.setMonitor r m).noteQualified.rail :=
    s.setMonitor_rail r m ▸ (s.setMonitor r m).noteQualified_run
  unfold State.judgeInterval
  dsimp only
  cases (s.monitor r).state with
  | absent => exact .inl rfl
  | down =>
    cases i with
    | good => exact set _
    | absent | bad => exact .inl rfl
  | qualifying =>
    cases i with
    | good =>
      dsimp only
      split
      · exact noted _
      · exact set _
    | bad => exact set _
    | absent => exact .inl rfl
  | qualified =>
    cases i with
    | good => exact set _
    | bad => exact s.impair_run r
    | absent => exact .inl rfl

theorem State.takeAcceptedEdge_run (n : Nat) : s.rail.KeptOrRunEnded (s.takeAcceptedEdge r n).rail := by
  have judged := State.judgeInterval_run
    ((s.setMonitor r ((s.monitor r).accept n)).offerEdge r n ((s.monitor r).interval n)) r ((s.monitor r).interval n)
  rwa [State.offerEdge_rail, State.setMonitor_rail] at judged

theorem State.takeMissingEdge_run : s.rail.KeptOrRunEnded (s.takeMissingEdge r).rail := by
  have offered : ((s.setMonitor r (s.monitor r).miss).offerNothing r).rail = s.rail := by
    rw [State.offerNothing_rail, State.setMonitor_rail]
  unfold State.takeMissingEdge
  dsimp only
  split
  · exact .inl offered
  · exact .inl offered
  · exact .inl ((State.setMonitor_rail ..).trans offered)
  · exact offered ▸ State.impair_run _ r

end

/-! The office boundary -/

section
variable {s : State} (h : s.rail.Ranges)
include h

theorem State.takeWithdrawal_railRanges : s.takeWithdrawal.rail.Ranges := by
  rw [State.takeWithdrawal_rail]
  split
  · exact { h.clearMarks.endRun with }
  · exact h

theorem State.passage_railRanges (ej begins : Bool) : (s.passage ej begins).rail.Ranges := by
  unfold State.passage
  split
  · exact State.takeWithdrawal_railRanges h
  split
  · rw [State.takeJoin_rail]
    exact h.clearMarks.endRun
  split
  · exact { h with }
  split <;> exact h

theorem State.railBoundary_railRanges (begins : Bool) : (s.railBoundary begins).rail.Ranges := by
  unfold State.railBoundary
  split
  · rw [State.driveRail_rail]
    exact { h with }
  · exact { h with }

theorem State.stationBoundary_railRanges (ej begins early : Bool) :
    (s.stationBoundary ej begins early).rail.Ranges := by
  unfold State.stationBoundary
  cases early
  · exact State.railBoundary_railRanges (State.passage_railRanges h ej begins) begins
  · exact State.railBoundary_railRanges h begins

theorem State.takeBoundary_railRanges (ej : Bool) : (s.takeBoundary ej).rail.Ranges :=
  State.takeBoundary_keeps (P := fun s => s.rail.Ranges) ej h (fun _ h => { h with })
    (fun _ h => State.takeWithdrawal_railRanges h) (fun _ h => h) (fun _ h => h)
    (fun _ ej begins early h => State.stationBoundary_railRanges h ej begins early)
    (fun s h => by rwa [s.readoutBoundary_rail]) (fun s h => by rwa [s.pageBoundary_rail]) (fun _ _ h => h)

/-! The measurement close -/

theorem State.formResults_railRanges (c : Captures) (last cut : Int) : (s.formResults c last cut).rail.Ranges := by
  rw [State.formResults_rail]
  refine { h with bestGrade := c.bestGrade_le cut, railError := fun e he => ?_ }
  dsimp only at he
  split at he
  · obtain ⟨q, -, rfl⟩ := Option.map_eq_some_iff.mp he
    exact clampTo_within (by decide) _
  · cases he

theorem State.formAtClose_railRanges : s.formAtClose.rail.Ranges := by
  unfold State.formAtClose
  (repeat' split) <;> exact State.formResults_railRanges h ..

/-- The 64th close of a lead-absent run ends it (R144). -/
theorem State.countLeadAbsent_railRanges : s.countLeadAbsent.rail.Ranges := by
  have below := h.leadAbsent
  unfold State.countLeadAbsent
  split
  · split
    · exact h.endRun
    · split
      · exact h.endRun
      · exact { h with leadAbsent := by dsimp only; omega }
  · exact h

theorem State.closeWork_railRanges : s.closeWork.rail.Ranges := by
  rw [State.closeWork, State.countOffset_rail, State.ftuClose_rail]
  exact State.countLeadAbsent_railRanges h

theorem State.closeModes_railRanges (testFirst : Bool) : (s.closeModes testFirst).rail.Ranges := by
  have followed {x : State} (hx : x.rail.Ranges) : x.followBetter.rail.Ranges := hx.endRun
  unfold State.closeModes
  split
  · split
    · exact State.closeWork_railRanges (followed h)
    · exact followed (State.closeWork_railRanges h)
  · exact State.closeWork_railRanges h

theorem State.noteMark_railRanges : s.noteMark.rail.Ranges := by
  unfold State.noteMark
  split
  · split
    · exact { h with marks := fun _ hk => addMark_range hk }
    · exact h
  · exact h.clearMarks

/-- A relabel sets the backoff by the station's number, 128 at the most, and keeps eight stamps (R149, R150). -/
theorem State.relabelBy_railRanges (k : Nat) : (s.relabelBy k).rail.Ranges := by
  have stn := s.straps.stn.isLt
  have relabelled : { s.rail with
      backoff := 8 * (s.straps.stn.val + 1), markCand := none, markRun := 0
      relabelStamps := pushStamp s.rail.relabelStamps s.stamp : Rail }.Ranges :=
    { h with
      markCand := nofun
      markRun := Nat.zero_le _
      backoff := by dsimp only; omega
      stamps := pushStamp_length_le .. }
  unfold State.relabelBy
  dsimp only
  split <;> exact relabelled

theorem State.countBackoff_railRanges : s.countBackoff.rail.Ranges :=
  { h with backoff := (Nat.sub_le ..).trans h.backoff }

theorem State.relabelStep_railRanges : s.relabelStep.rail.Ranges := by
  unfold State.relabelStep
  split
  · exact State.countBackoff_railRanges h
  · split
    · exact State.relabelBy_railRanges h _
    · exact State.countBackoff_railRanges h

theorem State.closeMultiframe_railRanges : s.closeMultiframe.rail.Ranges :=
  { State.relabelStep_railRanges (s := { s with rail := s.rail.countMark }) h.countMark with marks := nofun }

theorem State.marksAtClose_railRanges : s.marksAtClose.rail.Ranges := by
  have noted := State.noteMark_railRanges h
  unfold State.marksAtClose
  (repeat' split)
  · exact State.closeMultiframe_railRanges noted
  · exact noted
  · exact State.countBackoff_railRanges h
  · exact h

theorem State.takeClose_railRanges : s.takeClose.rail.Ranges := by
  have timed : s.timedClose.rail.Ranges := State.closeModes_railRanges (State.formAtClose_railRanges h) _
  have done : s.closeDone.rail.Ranges := by
    rw [State.closeDone, State.listenAtClose_rail]
    exact State.marksAtClose_railRanges timed
  rw [State.takeClose_eq]
  generalize s.closeDone = x at done ⊢
  exact { done with }

/-! The other commands -/

theorem State.takeGradeStart_railRanges : s.takeGradeStart.rail.Ranges := by
  unfold State.takeGradeStart State.pullGrade
  (repeat' split)
  · exact h
  · exact h
  all_goals exact { h with }

theorem State.takeCapture_railRanges (line : RailLine) (ch : LineChange) (k : Nat) :
    (s.takeCapture line ch k).rail.Ranges := by
  unfold State.takeCapture
  split
  · exact h
  · exact { h with }

theorem State.takeEjRise_railRanges : s.takeEjRise.rail.Ranges := by
  unfold State.takeEjRise
  dsimp only
  split <;> exact h

theorem State.takeRelease_railRanges (p : Straps) (ej : Bool) : (s.takeRelease p ej).rail.Ranges := by
  rw [(s.takeRelease_besidePage p ej).rail]
  exact { h with }

theorem State.SameBesideData.railRanges {u : State} (e : s.SameBesideData u) : u.rail.Ranges := by
  rw [show u = _ from e]
  exact h

theorem State.whenRunning_railRanges {f : State → State} (hf : (f s).rail.Ranges) :
    (whenRunning f s).rail.Ranges := by
  unfold whenRunning
  split
  · exact hf
  · exact h

end

/-! Every command and every tick -/

/-- Every command keeps the ranges of the rail. -/
theorem State.exec_railRanges {s u : State} (h : s.rail.Ranges) (c : Instr) (hu : exec c s = .next u) :
    u.rail.Ranges := by
  have edge (t : TribId) (b : Bool) : (s.lineEdge t b).rail.Ranges :=
    State.SameBesideData.railRanges h (s.lineEdge_byTrib t b).beside
  cases c with
  | resetAssertion => cases hu; exact Rail.reset_ranges
  | resetRelease p ej =>
    cases hu
    split
    · exact h
    · exact State.takeRelease_railRanges h p ej
  | leaveDark t b => rw [exec_leaveDark_eq] at hu; cases hu; exact edge t b
  | darkEntry t =>
    cases hu
    split
    · exact State.SameBesideData.railRanges h (s.discard_within t _ _ _).beside
    · exact h
  | candidate t b => rw [exec_candidate_eq] at hu; cases hu; exact edge t b
  | verifyCheck t b => rw [exec_verifyCheck_eq] at hu; cases hu; exact edge t b
  | syncOctetCheck t b => rw [exec_syncOctetCheck_eq] at hu; cases hu; exact edge t b
  | frameCompletion t b => rw [exec_frameCompletion_eq] at hu; cases hu; exact edge t b
  | officeBoundary ej => cases hu; exact State.whenRunning_railRanges h (State.takeBoundary_railRanges h ej)
  | measurementClose => cases hu; exact State.whenRunning_railRanges h (State.takeClose_railRanges h)
  | acceptedEdge r n =>
    cases hu
    split
    · exact (s.takeAcceptedEdge_run r n).ranges h
    · exact h
  | missingEdge r =>
    cases hu
    split
    · exact (s.takeMissingEdge_run r).ranges h
    · exact h
  | gradeStart => cases hu; exact State.whenRunning_railRanges h (State.takeGradeStart_railRanges h)
  | pulseEnd line => cases hu; exact State.whenRunning_railRanges h { h with }
  | ejRisingEdge => cases hu; exact State.whenRunning_railRanges h (State.takeEjRise_railRanges h)
  | acknowledgement => cases hu; exact State.whenRunning_railRanges h h
  | lineClockEdge t b => cases hu; exact edge t b
  | railLineCapture line ch n =>
    cases hu; exact State.whenRunning_railRanges h (State.takeCapture_railRanges h line ch n)
  | officeBit k half => cases hu; exact State.whenRunning_railRanges h h

/-- A tick writes of the rail the captures alone. -/
theorem State.idle_railRanges {s : State} (h : s.rail.Ranges) : s.idle.rail.Ranges := by
  unfold State.idle
  split
  · dsimp only
    rw [State.readRail_state]
    exact { h with }
  · unfold State.takeTick
    dsimp only
    split
    · split
      · rw [State.tickRunning_state]
        exact { h with }
      · exact h
    · exact h

/-- Settles O48: a tick reads the lines alone, and every command keeps the ranges. -/
theorem railRangesKept : Obligations.RailRangesKept := by
  intro s u h hu
  unfold step at hu
  split at hu
  next => cases hu; exact State.idle_railRanges h
  next c rest _ => exact State.exec_railRanges (s := { s with pending := rest }) h c hu

end Sys2Proof.Machine
end

section
/-! PROOFS. The LISTEN procedure (R158, R159): what a held window reads as, the counts of one window and what they
decide, the close of a station in LISTEN, and the boundary that hands a window to the next close. -/

namespace Sys2Proof.Machine

/-! What a held window reads as (R158) -/

theorem midpointOf_eq (f r : Int) : (midpointOf f r : Int) = max 0 ((f + r - 32) / 2) := by
  unfold midpointOf
  omega

section
variable {h : HeldWindow}

theorem HeldWindow.midpoint_absent (hf : h.caps.lead.firstFall = none) : h.reading.midpoint = none :=
  congrArg (Option.map _) (LineCapture.span_unfallen _ hf)

/-- LEAD fell at f and rose at r, or was low to the end of the frame. -/
theorem HeldWindow.midpoint_shown {f r : Int} (hf : h.caps.lead.firstFall = some f)
    (hr : h.caps.lead.low = some true ∧ r = h.length ∨ h.caps.lead.low = some false ∧ h.caps.lead.lastRise = some r) :
    h.reading.midpoint = some (midpointOf f r) := by
  have span : h.caps.lead.span ((h.length : Int) - 1) = some (f, r) := by
    rcases hr with ⟨hl, rfl⟩ | ⟨hl, hr⟩
    · rw [LineCapture.span_low _ hf hl, Int.sub_add_cancel]
    · exact LineCapture.span_risen _ hf hl hr
  exact congrArg (Option.map _) span

theorem HeldWindow.silent_iff : h.reading.silent = true ↔
    h.caps.beat.sawLow = false ∧ h.caps.lead.sawLow = false := by
  simp [HeldWindow.reading]

end

/-! The counts of one window (R159) -/

section
variable {x : Listen} {m r : Nat}

theorem Listen.countMidpoint_near (hr : x.runMidpoint = some r) (h1 : m ≤ r + 8) (h2 : r ≤ m + 8) :
    x.countMidpoint (some m) = { x with latestMidpoint := some m, runCount := min 16 (x.runCount + 1) } := by
  simp only [Listen.countMidpoint, hr]
  rw [if_pos (by omega), satSucc_eq_min]

theorem Listen.countMidpoint_fresh
    (hr : x.runMidpoint = none ∨ ∃ r, x.runMidpoint = some r ∧ (r + 8 < m ∨ m + 8 < r)) :
    x.countMidpoint (some m) = { x with latestMidpoint := some m, runMidpoint := some m, runCount := 1 } := by
  rcases hr with hr | ⟨r, hr, far⟩ <;> simp only [Listen.countMidpoint, hr]
  exact if_neg (by omega)

theorem Listen.countMidpoint_latest (x : Listen) (m : Nat) : (x.countMidpoint (some m)).latestMidpoint = some m := by
  unfold Listen.countMidpoint
  dsimp only
  split
  · rfl
  · split <;> rfl

theorem Listen.countMark_seen (x : Listen) (index : BitVec 3) : x.countMark true index = { x with
    markIndex := some index
    markCount := if x.markIndex = some index then min 2 (x.markCount + 1) else 1 } := by
  simp only [Listen.countMark, if_true]
  split
  · rename_i h
    rw [← h, satSucc_eq_min]
  · rfl

theorem Listen.countMark_missed {index : BitVec 3} (h : x.markIndex = some index) :
    x.countMark false index = { x with markIndex := none, markCount := 0 } := by
  simp [Listen.countMark, h]

theorem Listen.countMark_other {index : BitVec 3} (h : x.markIndex ≠ some index) : x.countMark false index = x := by
  simp [Listen.countMark, h]

/-- A midpoint writes its own three fields. -/
theorem Listen.countMidpoint_frame (x : Listen) (m : Option Nat) : x.countMidpoint m = { x with
    runMidpoint := (x.countMidpoint m).runMidpoint
    runCount := (x.countMidpoint m).runCount
    latestMidpoint := (x.countMidpoint m).latestMidpoint } := by
  unfold Listen.countMidpoint
  (repeat' split) <;> rfl

/-- The frame count is nothing to the midpoint. -/
theorem Listen.countMidpoint_frameCount (x : Listen) (n : Nat) (m : Option Nat) :
    ({ x with frameCount := n } : Listen).countMidpoint m = { x.countMidpoint m with frameCount := n } := by
  cases m with
  | none => rfl
  | some m =>
    cases hr : x.runMidpoint with
    | none => simp only [Listen.countMidpoint, hr]
    | some r =>
      simp only [Listen.countMidpoint, hr]
      split <;> rfl

/-- A mark writes its own two fields. -/
theorem Listen.countMark_frame (x : Listen) (seen : Bool) (index : BitVec 3) : x.countMark seen index = { x with
    markIndex := (x.countMark seen index).markIndex
    markCount := (x.countMark seen index).markCount } := by
  unfold Listen.countMark
  (repeat' split) <;> rfl

/-- The mark reads no more than these two. -/
theorem Listen.countMark_congr {x y : Listen} (hi : y.markIndex = x.markIndex) (hc : y.markCount = x.markCount)
    (seen : Bool) (index : BitVec 3) : (y.countMark seen index).markIndex = (x.countMark seen index).markIndex ∧
      (y.countMark seen index).markCount = (x.countMark seen index).markCount := by
  unfold Listen.countMark
  rw [hi, hc]
  split <;> split
  · exact ⟨rfl, rfl⟩
  · exact ⟨rfl, rfl⟩
  · exact ⟨rfl, rfl⟩
  · exact ⟨hi, hc⟩

/-- Each part of the counts of one window writes its own fields and reads no others. -/
theorem Listen.count_eq (x : Listen) (w : WindowReading) : x.count w = { x with
    frameCount := min 1024 (x.frameCount + 1)
    runMidpoint := (x.countMidpoint w.midpoint).runMidpoint
    runCount := (x.countMidpoint w.midpoint).runCount
    latestMidpoint := (x.countMidpoint w.midpoint).latestMidpoint
    silentRun := if w.silent then min 16 (x.silentRun + 1) else 0
    markIndex := (x.countMark w.mark w.index).markIndex
    markCount := (x.countMark w.mark w.index).markCount } := by
  rw [Listen.count, Listen.countMidpoint_frameCount, Listen.countMidpoint_frame, Listen.countSilence,
    Listen.countMark_frame]
  obtain ⟨index, count⟩ := Listen.countMark_congr (x := x) (y := { x with
    frameCount := satSucc 1024 x.frameCount
    runMidpoint := (x.countMidpoint w.midpoint).runMidpoint
    runCount := (x.countMidpoint w.midpoint).runCount
    latestMidpoint := (x.countMidpoint w.midpoint).latestMidpoint
    silentRun := if w.silent then satSucc 16 x.silentRun else 0 }) rfl rfl w.mark w.index
  rw [← index, ← count, ← satSucc_eq_min, ← satSucc_eq_min]

end

/-! What the counts decide (R159) -/

section
variable {x : Listen}

theorem Listen.decision_asked (h : x.withdrawRequest = true) : x.decision = none := if_pos h

theorem Listen.decision_unasked (h : x.withdrawRequest = false) : x.decision =
    if 16 ≤ x.runCount then some (x.latestMidpoint.getD 0, false)
    else if 16 ≤ x.silentRun then some (0, false)
    else if 1024 ≤ x.frameCount then some (x.latestMidpoint.getD 0, true)
    else none := if_neg (Bool.eq_false_iff.mp h)

end

section
variable {s : State}

theorem State.decideJoin_waits (h : s.listen.decision = none) : s.decideJoin = s := by
  rw [State.decideJoin, h]

/-- The join request handed over, with OFFSET where the join is forced. -/
theorem State.decideJoin_joins {o : Nat} {forced : Bool} (h : s.listen.decision = some (o, forced)) :
    s.decideJoin = { s with
      listen := { s.listen with phase := .joinPending, offset := some o }
      ftu := { s.ftu with joinRequest := some o }
      flags := if forced then s.flags.raise .offset else s.flags } := by
  rw [State.decideJoin, h]
  cases forced <;> rfl

/-! The procedure at a close -/

theorem State.listenAtClose_counts {w : HeldWindow} (hj : s.joined = false) (hp : s.listen.phase = .running)
    (hd : s.listen.withdrawn = false) :
    s.listenAtClose (some w) = ({ s with listen := s.listen.count w.reading } : State).decideJoin := by
  simp only [State.listenAtClose, hj, if_neg Bool.false_ne_true, hp, hd]

/-- With no window held, while withdrawn, and with a join pending or in its frame nothing is counted or decided. -/
theorem State.listenAtClose_idle {w : Option HeldWindow}
    (h : w = none ∨ s.listen.withdrawn = true ∨ s.listen.phase ≠ .running) :
    (s.listenAtClose w).listen = s.listen ∧ (s.listenAtClose w).ftu.joinRequest = s.ftu.joinRequest ∧
      (s.listenAtClose w).flags = s.flags := by
  unfold State.listenAtClose
  split
  · exact ⟨rfl, rfl, rfl⟩
  · split
    · rename_i hp
      split
      · rename_i hd
        rcases h with h | h | h
        · cases h
        · rw [hd] at h
          cases h
        · exact absurd hp h
      · exact ⟨rfl, rfl, rfl⟩
    · exact ⟨rfl, rfl, rfl⟩
    · split <;> exact ⟨rfl, rfl, rfl⟩

end

section
variable {s : State} (hm : s.modes.mode = .listen)
include hm

/-- In LISTEN the timing blocks make of a close the FTU's own alone (R82). -/
theorem State.timedClose_listening : s.timedClose = s.formAtClose.ftuClose := by
  have mode : s.formAtClose.modes.mode = .listen := by rwa [State.formAtClose_modes]
  have untested : s.formAtClose.holdTest = false := Bool.eq_false_iff.mpr fun h => by
    obtain ⟨hold, -⟩ := (State.holdTest_iff _).mp h
    rw [mode] at hold
    cases hold
  rw [State.timedClose, State.closeModes, untested, if_neg Bool.false_ne_true, State.closeWork,
    State.countLeadAbsent_elsewhere (by rw [mode]; decide), State.countOffset_elsewhere]
  rw [State.ftuClose_modes, mode]
  decide

/-- The procedure finds itself, the join request and OFFSET as they were before the close. -/
theorem State.beforeProcedure : s.timedClose.marksAtClose.joined = false ∧
    s.timedClose.marksAtClose.listen = s.listen ∧
    s.timedClose.marksAtClose.ftu.joinRequest = s.ftu.joinRequest ∧
    s.timedClose.marksAtClose.flags.offset = s.flags.offset := by
  have alone : s.timedClose.joined = false :=
    s.timedClose_marks.joined.trans (s.joined_eq_false_iff.mpr hm)
  obtain ⟨-, offset, -⟩ := s.beforeOffset
  refine ⟨(State.marksAtClose_joined _).trans alone, by simp [State.timedClose], ?_, ?_⟩
  · rw [State.marksAtClose_alone alone, State.timedClose_listening hm, State.ftuClose_ftu, Ftu.close_joinRequest,
      State.formAtClose_ftu]
  · exact (State.marksAtClose_flags_ne (f := .offset) _ nofun).trans
      ((congrArg (fun x : State => x.flags.offset) (State.timedClose_listening hm)).trans offset)

/-- The best grade of a close in LISTEN is that of the window held, or 0 (R142, R158). -/
theorem State.takeClose_listening_grade : (s.rail.held = none → s.takeClose.rail.bestGrade = 0) ∧
    ∀ h, s.rail.held = some h → s.takeClose.rail.bestGrade = h.caps.bestGrade ((h.length : Int) - 1) := by
  have alone := s.joined_eq_false_iff.mpr hm
  rw [s.takeClose_results.bestGrade, State.formAtClose, alone, if_neg Bool.false_ne_true]
  exact ⟨fun h => by rw [h]; rfl, fun w h => by rw [h]; rfl⟩

end

/-- What the procedure leaves stays to the end of the close, and the window held has been processed (R158). -/
theorem State.takeClose_procedure (s : State) : s.takeClose.rail.held = none ∧
    s.takeClose.listen = s.closeDone.listen ∧ s.takeClose.ftu = s.closeDone.ftu ∧
    s.takeClose.flags = s.closeDone.flags := by
  rw [State.takeClose_eq]
  generalize s.closeDone = x
  exact ⟨rfl, rfl, rfl, rfl⟩

/-! The boundary that hands the window over (R158) -/

/-- Unless the station starts afresh, what is held stays through the passage of a boundary (R161, R163, R164). -/
theorem State.passage_held {s : State} {ej : Bool} (begins : Bool)
    (h : s.listen.withdrawn = false ∨ ej = true ∨ s.listen.withdrawRequest = true ∨ s.listen.phase = .joinFrame) :
    (s.passage ej begins).rail.held = s.rail.held := by
  unfold State.passage
  split
  · rw [State.takeWithdrawal_rail]
    split <;> rfl
  split
  · rw [State.takeJoin_rail]
    rfl
  split
  · rename_i asked joins afresh
    simp only [Bool.and_eq_true, Bool.not_eq_true'] at afresh
    obtain ⟨withdrawn, low⟩ := afresh
    rcases h with h | h | h | h
    · rw [withdrawn] at h; cases h
    · rw [low] at h; cases h
    · exact absurd h asked
    · exact absurd h joins
  split <;> rfl

theorem State.railBoundary_held (s : State) (begins : Bool) : (s.railBoundary begins).rail.held = s.rail.held := by
  unfold State.railBoundary
  split
  · rw [State.driveRail_rail]
  · rfl

/-- The window of the frame that ends is held for the next close, or nothing is. -/
theorem State.takeBoundary_held {s : State} {ej : Bool}
    (h : s.listen.withdrawn = false ∨ ej = true ∨ s.listen.withdrawRequest = true ∨ s.listen.phase = .joinFrame) :
    (s.takeBoundary ej).rail.held = s.closeListenWindow.rail.held := by
  rw [(s.takeBoundary_same ej).rail, State.stationBoundary, State.railBoundary_held]
  cases he : s.listen.withdrawRequest && Config.withdrawBeforeFtu s.choiceSeq with
  | true =>
    have start : s.boundaryStart = s.closeListenWindow.takeWithdrawal.ftuBoundary := by
      rw [State.boundaryStart, he, applyWhen_true]
    rw [if_pos rfl, start, State.ftuBoundary_rail, State.takeWithdrawal_rail]
    split <;> rfl
  | false =>
    have start : s.boundaryStart = s.closeListenWindow.ftuBoundary := by
      rw [State.boundaryStart, he, applyWhen_false]
    rw [if_neg Bool.false_ne_true, start]
    exact State.passage_held _ h

/-- A station that stays in LISTEN opens a LISTEN window at the boundary. -/
theorem State.takeBoundary_opens_window {s : State} {ej : Bool} (hm : s.modes.mode = .listen)
    (hw : s.listen.withdrawRequest = false) (hp : s.listen.phase ≠ .joinFrame)
    (hd : s.listen.withdrawn = false ∨ ej = true) (hj : s.ftu.joinRequest = none) :
    (s.takeBoundary ej).SameStation (s.closeListenWindow.ftuBoundary.openListenWindow false) := by
  have alone : s.closeListenWindow.ftuBoundary.joined = false := (State.joined_eq_false_iff _).mpr hm
  have quiet : s.closeListenWindow.ftuBoundary.passage ej false = s.closeListenWindow.ftuBoundary :=
    State.passage_quiet hw hp hd
  have same := s.takeBoundary_same ej
  rw [State.boundaryStart_ordinary hw, hw, Bool.false_and, hj, State.stationBoundary, if_neg Bool.false_ne_true,
    Option.isSome_none, quiet, State.railBoundary_alone alone] at same
  exact same

/-- Settles O52: the reading, the counts and the decision by their cases; then the two closes and the boundary. -/
theorem listenProcedure : Obligations.ListenProcedure := by
  refine ⟨fun h => ?reading, fun x w hf hr hs hc => ?counts, fun x => ?decision,
    fun s w hr hm hp hd hh => ⟨_, exec_measurementClose hr, ?counted⟩,
    fun s hr hm => ⟨_, exec_measurementClose hr, ?close⟩,
    fun s ej hr => ⟨_, exec_officeBoundary hr ej, fun h => ?held, fun hm hw hp hd hj => ?opened⟩⟩
  case reading =>
    exact ⟨rfl, HeldWindow.midpoint_absent, fun f r hf hr => ⟨_, HeldWindow.midpoint_shown hf hr, midpointOf_eq f r⟩,
      Captures.markSeen_iff .., HeldWindow.silent_iff⟩
  case counts =>
    rw [Listen.count_eq]
    refine ⟨rfl, fun hm => ?_, fun m hm => ?_, rfl, fun hm => ?_, fun hm => ?_⟩
    · rw [hm]
      exact ⟨rfl, rfl, rfl⟩
    · rw [hm]
      refine ⟨Listen.countMidpoint_latest .., fun r hr h1 h2 => ?_, fun h => ?_⟩
      · rw [Listen.countMidpoint_near hr h1 h2]
        exact ⟨hr, rfl⟩
      · rw [Listen.countMidpoint_fresh h]
        exact ⟨rfl, rfl⟩
    · rw [hm, Listen.countMark_seen]
      exact ⟨rfl, rfl⟩
    · rw [hm]
      exact ⟨fun h => by rw [Listen.countMark_missed h]; exact ⟨rfl, rfl⟩,
        fun h => by rw [Listen.countMark_other h]; exact ⟨rfl, rfl⟩⟩
  case decision =>
    refine ⟨Listen.decision_asked, fun hw => ?_⟩
    rw [Listen.decision_unasked hw]
    refine ⟨fun h => if_pos h, fun h1 h2 => ?_, fun h1 h2 h3 => ?_, fun h1 h2 h3 => ?_⟩
    · rw [if_neg (by omega), if_pos h2]
    · rw [if_neg (by omega), if_neg (by omega), if_pos h3]
    · rw [if_neg (by omega), if_neg (by omega), if_neg (by omega)]
  case counted =>
    obtain ⟨alone, listen, request, offset⟩ := State.beforeProcedure hm
    obtain ⟨processed, listen', ftu', flags'⟩ := s.takeClose_procedure
    obtain ⟨-, grade⟩ := State.takeClose_listening_grade hm
    intro x
    have done : s.closeDone = ({ s.timedClose.marksAtClose with listen := x } : State).decideJoin := by
      rw [State.closeDone, hh, State.listenAtClose_counts alone (by rw [listen, hp]) (by rw [listen, hd]), listen]
    rw [listen', ftu', flags', done, ← request, ← offset]
    refine ⟨grade w hh, processed, fun h => ?_, fun o forced h => ?_⟩
    · rw [State.decideJoin_waits h]
      exact ⟨rfl, rfl, rfl⟩
    · rw [State.decideJoin_joins h]
      exact ⟨rfl, rfl, by cases forced <;> rfl⟩
  case close =>
    obtain ⟨-, listen, request, offset⟩ := State.beforeProcedure hm
    obtain ⟨processed, listen', ftu', flags'⟩ := s.takeClose_procedure
    obtain ⟨ungraded, grade⟩ := State.takeClose_listening_grade hm
    refine ⟨processed, ungraded, grade, fun h => ?_⟩
    rw [← listen] at h
    obtain ⟨same, joins, flags⟩ := State.listenAtClose_idle h
    rw [listen', ftu', flags', State.closeDone, same, joins, flags]
    exact ⟨listen, request, offset⟩
  case held =>
    rw [State.takeBoundary_held h]
    exact ⟨fun hw => if_pos hw, fun hw => if_neg (Bool.eq_false_iff.mp hw)⟩
  case opened =>
    have same := State.takeBoundary_opens_window hm hw hp hd hj
    rw [same.modes, same.listen, same.rail]
    exact ⟨hm, rfl, rfl, rfl, rfl⟩

end Sys2Proof.Machine
end

section
/-! PROOFS. Withdrawal and restart (R155, R163, R164): what the assertion of RSTn leaves, the rise of EJ, and the
boundary at which a withdrawn station finds EJ low. -/

namespace Sys2Proof.Machine

/-! The end of withdrawal (R164) -/

/-- A withdrawn station without a request starts afresh where EJ is low. -/
theorem State.passage_afresh {s : State} (begins : Bool) (hw : s.listen.withdrawRequest = false)
    (hp : s.listen.phase = .running) (hd : s.listen.withdrawn = true) :
    s.passage false begins = s.startAfresh := by
  unfold State.passage
  rw [if_neg (by simp [hw]), if_neg (by simp [hp]), if_pos (by simp [hd])]

section
variable {s : State} (law : s.ModeLaw) (hd : s.listen.withdrawn = true)
include law hd

/-- A withdrawn station is not joined, its procedure is RUNNING, and no join is pending (R159, R163). -/
theorem State.ModeLaw.of_withdrawn :
    s.modes.mode = .listen ∧ s.listen.phase = .running ∧ s.ftu.joinRequest = none := by
  obtain ⟨listening, running⟩ := law.withdrawn hd
  refine ⟨listening, running, Option.not_isSome_iff_eq_none.mp fun h => ?_⟩
  obtain ⟨-, -, -, stays⟩ := law.of_joinRequest h
  rw [hd] at stays
  cases stays

/-- With EJ low the procedure starts afresh and the frame beginning has a LISTEN window (R158, R164). -/
theorem State.takeBoundary_afresh (hw : s.listen.withdrawRequest = false) :
    (s.takeBoundary false).SameStation
      (s.closeListenWindow.ftuBoundary.startAfresh.openListenWindow false) := by
  obtain ⟨listening, running, request⟩ := law.of_withdrawn hd
  have passage : s.closeListenWindow.ftuBoundary.passage false false = s.closeListenWindow.ftuBoundary.startAfresh :=
    State.passage_afresh false hw running hd
  have alone : s.closeListenWindow.ftuBoundary.startAfresh.joined = false := s.joined_eq_false_iff.mpr listening
  have same := s.takeBoundary_same false
  rw [State.boundaryStart_ordinary hw, hw, Bool.false_and, request, Option.isSome_none, State.stationBoundary,
    if_neg Bool.false_ne_true, passage, State.railBoundary_alone alone] at same
  exact same

end

/-- Settles O51: by the level of EJ at the boundary. -/
theorem withdrawalEnds : Obligations.WithdrawalEnds := by
  intro s hr law hd hw
  obtain ⟨-, running, request⟩ := law.of_withdrawn hd
  refine ⟨⟨_, exec_officeBoundary hr false, ?low⟩, ⟨_, exec_officeBoundary hr true, ?high⟩⟩
  case low =>
    have same := State.takeBoundary_afresh law hd hw
    have afresh : (s.takeBoundary false).listen = { s.listen.afresh with withdrawn := false } := same.listen
    rw [afresh, same.rail, Listen.afresh, hw]
    exact ⟨rfl, rfl, rfl⟩
  case high =>
    exact State.takeBoundary_listen true hw (by simp [running]) (.inr rfl) request

/-! A station in reset (R155) -/

section
variable {s : State} (hr : s.running = false)
include hr

/-- No bit is delivered while RSTn is asserted. -/
theorem State.lineEdge_reset (t : TribId) (b : Bool) : s.lineEdge t b = s :=
  State.lineEdge_of_kind (k := .ignored) (by simp [State.edgeKind, hr])

theorem exec_lineClockEdge_reset (t : TribId) (b : Bool) : exec (.lineClockEdge t b) s = .next s :=
  congrArg _ (State.lineEdge_reset hr t b)

/-- While RSTn is asserted every command but the two of RSTn has no occasion. -/
theorem exec_reset {c : Instr} (assertion : c ≠ .resetAssertion) (release : ∀ p ej, c ≠ .resetRelease p ej) :
    exec c s = .next s := by
  cases c with
  | resetAssertion => exact absurd rfl assertion
  | resetRelease p ej => exact absurd rfl (release p ej)
  | leaveDark t b => rw [exec_leaveDark_eq, exec_lineClockEdge_reset hr]
  | candidate t b => rw [exec_candidate_eq, exec_lineClockEdge_reset hr]
  | verifyCheck t b => rw [exec_verifyCheck_eq, exec_lineClockEdge_reset hr]
  | syncOctetCheck t b => rw [exec_syncOctetCheck_eq, exec_lineClockEdge_reset hr]
  | frameCompletion t b => rw [exec_frameCompletion_eq, exec_lineClockEdge_reset hr]
  | lineClockEdge t b => exact exec_lineClockEdge_reset hr t b
  | darkEntry t => simp [exec, execDarkEntry, hr]
  | acceptedEdge r n => simp [exec, execAcceptedEdge, hr]
  | missingEdge r => simp [exec, execMissingEdge, hr]
  | officeBoundary ej => exact congrArg _ (whenRunning_reset hr)
  | measurementClose => exact congrArg _ (whenRunning_reset hr)
  | gradeStart => exact congrArg _ (whenRunning_reset hr)
  | pulseEnd line => exact congrArg _ (whenRunning_reset hr)
  | ejRisingEdge => exact congrArg _ (whenRunning_reset hr)
  | acknowledgement => exact congrArg _ (whenRunning_reset hr)
  | railLineCapture line ch n => exact congrArg _ (whenRunning_reset hr)
  | officeBit k half => exact congrArg _ (whenRunning_reset hr)

end

theorem State.resetBlocks_running (s : State) : s.resetBlocks.running = false := rfl

/-- A second assertion finds every block at its reset values already. -/
theorem State.resetBlocks_again (s : State) : s.resetBlocks.resetBlocks = s.resetBlocks := rfl

theorem State.resetBlocks_ownLow (s : State) (line : RailLine) : s.resetBlocks.ownLow line = false := by
  cases line <;> rfl

theorem State.resetBlocks_oda (s : State) (t : TribId) : s.resetBlocks.out.oda[t] = true := by
  simp [State.resetBlocks, State.reset, OutPins.reset]

/-- Settles O5: the reset values of lines and join; then no command but the two of RSTn has an occasion. -/
theorem resetAssertionQuiets : Obligations.ResetAssertionQuiets := by
  intro s
  refine ⟨s.resetBlocks, rfl, s.resetBlocks_running, s.resetBlocks_ownLow, s.resetBlocks_oda, rfl, rfl, rfl, rfl,
    fun c release => ?_⟩
  by_cases assertion : c = .resetAssertion
  · rw [assertion]
    exact congrArg Host.Outcome.next s.resetBlocks_again
  · exact exec_reset s.resetBlocks_running assertion release

/-! A rising edge of EJ (R163) -/

theorem State.takeEjRise_request {s : State} (h : s.listen.phase ≠ .joinPending) : s.takeEjRise = { s with
    listen := { s.listen with withdrawRequest := true }
    pins := { s.pins with ej := true } } := if_neg h

/-- A pending join is given up. -/
theorem State.takeEjRise_pending {s : State} (h : s.listen.phase = .joinPending) : s.takeEjRise = { s with
    listen := { s.listen with withdrawRequest := true, phase := .running, offset := none }
    ftu := { s.ftu with joinRequest := none }
    pins := { s.pins with ej := true } } := if_pos h

theorem exec_ejRisingEdge {s : State} (hr : s.running = true) : exec .ejRisingEdge s = .next s.takeEjRise :=
  congrArg _ (whenRunning_running hr)

/-- Settles O49: by the phase of the procedure. -/
theorem ejRise : Obligations.EjRise := by
  intro s hr
  rw [exec_ejRisingEdge hr]
  exact ⟨fun h => congrArg Host.Outcome.next (State.takeEjRise_request h),
    fun h => congrArg Host.Outcome.next (State.takeEjRise_pending h)⟩

end Sys2Proof.Machine
end

section
/-! PROOFS. The alarm flags (R171 to R174): which events can only raise a flag, the raised-since marks over every
step, the acknowledgement and the level of ALM; and the step as a run of the command at the front of the queue. -/

namespace Sys2Proof.Machine

/-! Flags raised and nothing else (R171) -/

/-- From s to u some flags are raised, and no flag changes otherwise. -/
def State.RaisesOnly (s u : State) : Prop :=
  ∀ f, u.flags.get f = s.flags.get f ∨ u.flags.get f = (s.flags.get f).raise

section
variable {s u w : State}

theorem State.RaisesOnly.of_flags (h : u.flags = s.flags) : s.RaisesOnly u := fun f => .inl (by rw [h])

/-- A second raising of a flag changes nothing. -/
theorem State.RaisesOnly.trans (h : s.RaisesOnly u) (g : u.RaisesOnly w) : s.RaisesOnly w := by
  intro f
  rcases g f with second | second
  · rw [second]
    exact h f
  · right
    rcases h f with first | first
    · rw [second, first]
    · rw [second, first]
      rfl

theorem State.raise_raisesOnly (s : State) (f : FlagId) : s.RaisesOnly (s.raise f) := by
  intro g
  by_cases h : g = f
  · rw [h]
    exact .inr (Flags.get_raise ..)
  · exact .inl (Flags.get_raise_ne _ h)

theorem State.RaisesOnly.raise (h : s.RaisesOnly u) (f : FlagId) : s.RaisesOnly (u.raise f) :=
  h.trans (u.raise_raisesOnly f)

end

/-! The receivers and the pool -/

section
variable (s : State) (t : TribId)

/-- A cell request raises SQUEEZE or nothing (R28 to R32, R42). -/
theorem State.cellRequest_raisesOnly : s.RaisesOnly (s.cellRequest t) := by
  rcases s.cellRequest_cases t with ⟨-, granted⟩ | ⟨-, -, ⟨v, -, evicted⟩ | ⟨-, dropped⟩⟩
  · rw [granted]
    exact .of_flags rfl
  · rw [evicted]
    exact (State.RaisesOnly.of_flags rfl).raise .squeeze
  · rw [dropped]
    exact (State.RaisesOnly.of_flags rfl).raise .squeeze

/-- The overflow check raises SLIP or nothing (R35, R41). -/
theorem State.overflowCheck_raisesOnly : s.RaisesOnly (s.overflowCheck t) := by
  unfold State.overflowCheck
  split
  · exact (State.RaisesOnly.of_flags rfl).raise .slip
  · exact .of_flags rfl

theorem State.appendFilled_flags (m : Bool) : (s.appendFilled t m).flags = s.flags := by
  unfold State.appendFilled
  split <;> rfl

theorem State.releaseFilling_flags : (s.releaseFilling t).flags = s.flags := by
  unfold State.releaseFilling
  split <;> rfl

theorem State.primeStore_flags : (s.primeStore t).flags = s.flags := by
  unfold State.primeStore
  split <;> rfl

theorem State.completeFrame_raisesOnly (m : Bool) : s.RaisesOnly (s.completeFrame t m) :=
  ((s.overflowCheck_raisesOnly t).trans (.of_flags (State.appendFilled_flags ..))).trans
    (State.cellRequest_raisesOnly _ t)

/-- A loss of ALIGNED, or a dark entry, raises the flag of its report (R5, R14). -/
theorem State.discard_raisesOnly (f : Receiver → Receiver) (g : Record → Record) (fl : FlagId) :
    s.RaisesOnly ((((s.modRx t f).releaseFilling t).modRecord t g).raise fl) :=
  (State.RaisesOnly.of_flags ((s.modRx t f).releaseFilling_flags t)).raise fl

theorem State.takeEntry_raisesOnly (b : Bool) : s.RaisesOnly (s.takeEntry t b) :=
  ((State.RaisesOnly.of_flags rfl).trans (State.cellRequest_raisesOnly (s.modRx t fun x => x.enterAligned b) t)).trans
    (.of_flags (State.primeStore_flags ..))

theorem State.takeVerifyCheck_raisesOnly (b : Bool) : s.RaisesOnly (s.takeVerifyCheck t b) := by
  unfold State.takeVerifyCheck
  dsimp only
  split
  · split
    · exact .of_flags rfl
    · exact s.takeEntry_raisesOnly t b
  · exact .of_flags rfl

theorem State.takeSyncCheck_raisesOnly (b : Bool) : s.RaisesOnly (s.takeSyncCheck t b) := by
  have checked : s.RaisesOnly (s.modRx t fun x => x.syncCheck b) := .of_flags rfl
  unfold State.takeSyncCheck
  dsimp only
  split
  · exact checked.trans (State.discard_raisesOnly _ t _ _ _)
  · exact checked

/-- An edge of a line clock, whatever its occasion (R3). -/
theorem State.lineEdge_raisesOnly (b : Bool) : s.RaisesOnly (s.lineEdge t b) := by
  unfold State.lineEdge
  cases s.edgeKind t b with
  | verifyCheck => exact s.takeVerifyCheck_raisesOnly t b
  | syncCheck => exact s.takeSyncCheck_raisesOnly t b
  | completion =>
    exact (State.RaisesOnly.of_flags (u := s.takePayloadBit t b) rfl).trans (State.completeFrame_raisesOnly _ t _)
  | _ => exact .of_flags rfl

end

/-! The references -/

section
variable (s : State) (r : RefId)

/-- A loss of the selected reference raises REF-LOSS, and HOLD-ENTRY where no other is left (R115, R128). -/
theorem State.loseSelected_raisesOnly : s.RaisesOnly (s.loseSelected r) := by
  by_cases hq : (s.monitor r.other).state = .qualified
  · obtain ⟨-, -, -, -, -, flags⟩ := State.loseSelected_switch hq
    exact (s.raise_raisesOnly .refLoss).trans (.of_flags flags)
  · obtain ⟨-, -, -, -, -, flags⟩ := State.loseSelected_hold hq
    exact ((s.raise_raisesOnly .refLoss).raise .holdEntry).trans (.of_flags flags)

/-- The note of a loss raises FLAP or nothing (R111). -/
theorem State.lossNoted_raisesOnly : s.RaisesOnly (s.lossNoted r) := by
  have set (m : Monitor) : s.RaisesOnly (s.setMonitor r m) := .of_flags (s.setMonitor_flags r m)
  unfold State.lossNoted
  dsimp only
  split
  · exact (set _).raise .flap
  · exact set _

theorem State.loseReference_raisesOnly : s.RaisesOnly (s.loseReference r) := by
  have noted := s.lossNoted_raisesOnly r
  rw [State.loseReference_eq]
  split
  · exact noted.trans (State.loseSelected_raisesOnly _ r)
  · exact noted

theorem State.impair_raisesOnly : s.RaisesOnly (s.impair r) := by
  unfold State.impair
  dsimp only
  split
  · exact s.loseReference_raisesOnly r
  · exact .of_flags (s.setMonitor_flags r _)

/-- Of all that an interval does, a loss alone raises flags (R108 to R111). -/
theorem State.judgeInterval_raisesOnly (i : Interval) : s.RaisesOnly (s.judgeInterval r i) := by
  have set (m : Monitor) : s.RaisesOnly (s.setMonitor r m) := .of_flags (s.setMonitor_flags r m)
  have unchanged : s.RaisesOnly s := .of_flags rfl
  unfold State.judgeInterval
  dsimp only
  cases (s.monitor r).state with
  | absent => exact unchanged
  | down =>
    cases i with
    | good => exact set _
    | _ => exact unchanged
  | qualifying =>
    cases i with
    | good =>
      dsimp only
      split
      · exact (set _).trans (.of_flags (State.noteQualified_flags _))
      · exact set _
    | bad => exact set _
    | absent => exact unchanged
  | qualified =>
    cases i with
    | good => exact set _
    | bad => exact s.impair_raisesOnly r
    | absent => exact unchanged

theorem State.takeAcceptedEdge_raisesOnly (n : Nat) : s.RaisesOnly (s.takeAcceptedEdge r n) :=
  (State.RaisesOnly.of_flags (by simp)).trans (State.judgeInterval_raisesOnly _ r _)

theorem State.takeMissingEdge_raisesOnly : s.RaisesOnly (s.takeMissingEdge r) := by
  have offered : s.RaisesOnly ((s.setMonitor r (s.monitor r).miss).offerNothing r) := .of_flags (by simp)
  unfold State.takeMissingEdge
  dsimp only
  split
  · exact offered
  · exact offered
  · exact offered.trans (.of_flags (State.setMonitor_flags ..))
  · exact offered.trans (State.impair_raisesOnly _ r)

end

/-! The measurement close -/

section
variable (s : State)

/-- The lead-absent run raises LEAD-LOST at its 64th close (R144). -/
theorem State.countLeadAbsent_raisesOnly : s.RaisesOnly s.countLeadAbsent := by
  unfold State.countLeadAbsent
  split
  · split
    · exact .of_flags rfl
    · split
      · exact (State.RaisesOnly.of_flags rfl).raise .leadLost
      · exact .of_flags rfl
  · exact .of_flags rfl

/-- The FTU's close raises RANGE or nothing (R96). -/
theorem State.ftuClose_raisesOnly : s.RaisesOnly s.ftuClose := by
  have flags := s.ftuClose_flags
  split at flags
  · exact (s.raise_raisesOnly .range).trans (.of_flags flags)
  · exact .of_flags flags

/-- The offset run raises OFFSET at its 8000th close (R132). -/
theorem State.countOffset_raisesOnly : s.RaisesOnly s.countOffset := by
  unfold State.countOffset
  split
  · split
    · split
      · exact (State.RaisesOnly.of_flags rfl).raise .offset
      · exact .of_flags rfl
    · exact .of_flags rfl
  · exact .of_flags rfl

theorem State.closeWork_raisesOnly : s.RaisesOnly s.closeWork :=
  (s.countLeadAbsent_raisesOnly.trans (State.ftuClose_raisesOnly _)).trans (State.countOffset_raisesOnly _)

theorem State.closeModes_raisesOnly (testFirst : Bool) : s.RaisesOnly (s.closeModes testFirst) := by
  have followed (x : State) : x.RaisesOnly x.followBetter := .of_flags x.followBetter_flags
  unfold State.closeModes
  split
  · split
    · exact (followed s).trans (State.closeWork_raisesOnly _)
    · exact s.closeWork_raisesOnly.trans (followed _)
  · exact s.closeWork_raisesOnly

/-- A relabel raises RELABEL where the pace is passed (R150). -/
theorem State.relabelBy_raisesOnly (k : Nat) : s.RaisesOnly (s.relabelBy k) := by
  unfold State.relabelBy
  dsimp only
  split
  · exact (State.RaisesOnly.of_flags rfl).raise .relabel
  · exact .of_flags rfl

theorem State.relabelStep_raisesOnly : s.RaisesOnly s.relabelStep := by
  unfold State.relabelStep
  split
  · exact .of_flags rfl
  · split
    · exact s.relabelBy_raisesOnly _
    · exact .of_flags rfl

theorem State.closeMultiframe_raisesOnly : s.RaisesOnly s.closeMultiframe :=
  State.relabelStep_raisesOnly { s with rail := s.rail.countMark }

theorem State.marksAtClose_raisesOnly : s.RaisesOnly s.marksAtClose := by
  have noted : s.RaisesOnly s.noteMark := .of_flags s.noteMark_flags
  unfold State.marksAtClose
  (repeat' split)
  · exact noted.trans (State.closeMultiframe_raisesOnly _)
  · exact noted
  · exact .of_flags rfl
  · exact .of_flags rfl

/-- A forced join raises OFFSET (R159). -/
theorem State.decideJoin_raisesOnly : s.RaisesOnly s.decideJoin := by
  unfold State.decideJoin
  split
  · exact .of_flags rfl
  · split
    · exact (State.RaisesOnly.of_flags rfl).raise .offset
    · exact .of_flags rfl

theorem State.listenAtClose_raisesOnly (w : Option HeldWindow) : s.RaisesOnly (s.listenAtClose w) := by
  unfold State.listenAtClose
  split
  · exact .of_flags rfl
  split
  · split
    · exact (State.RaisesOnly.of_flags rfl).trans (State.decideJoin_raisesOnly _)
    · exact .of_flags rfl
  · exact .of_flags rfl
  · split <;> exact .of_flags rfl

theorem State.takeClose_raisesOnly : s.RaisesOnly s.takeClose := by
  have timed : s.RaisesOnly s.timedClose :=
    (State.RaisesOnly.of_flags s.formAtClose_flags).trans (State.closeModes_raisesOnly _ _)
  have done : s.RaisesOnly s.closeDone :=
    (timed.trans (State.marksAtClose_raisesOnly _)).trans (State.listenAtClose_raisesOnly _ _)
  rw [State.takeClose_eq]
  generalize s.closeDone = x at done ⊢
  exact done.trans (.of_flags rfl)

end

/-! Events that write no flag -/

section
variable (s : State)

theorem State.takeGradeStart_flags : s.takeGradeStart.flags = s.flags := by
  unfold State.takeGradeStart State.pullGrade
  (repeat' split) <;> rfl

theorem State.takeCapture_flags (line : RailLine) (ch : LineChange) (k : Nat) :
    (s.takeCapture line ch k).flags = s.flags := by
  unfold State.takeCapture
  split <;> rfl

theorem State.takeEjRise_flags : s.takeEjRise.flags = s.flags := by
  unfold State.takeEjRise
  dsimp only
  split <;> rfl

/-- A tick writes no flag. -/
theorem State.idle_flags : s.idle.flags = s.flags := by
  unfold State.idle
  split
  · dsimp only
    rw [State.readRail_state]
    rfl
  · unfold State.takeTick
    dsimp only
    split
    · split
      · rw [State.tickRunning_state]
        rfl
      · rfl
    · rfl

end

/-! One flag at an acknowledgement (R173) -/

/-- A shown flag not raised since is cleared. -/
theorem Flag.acknowledge_shown {f : Flag} (hs : f.s = true) (hx : f.x = false) : f.acknowledge.v = false := by
  simp [Flag.acknowledge, hs, hx]

theorem Flag.acknowledge_kept {f : Flag} (h : f.s = false ∨ f.x = true) : f.acknowledge.v = f.v := by
  rcases h with hs | hx
  · simp [Flag.acknowledge, hs]
  · simp [Flag.acknowledge, hx]

/-! The raised-since marks (R171 to R173) -/

section
variable {fs : Flags}

theorem State.RaisesOnly.raisedAreSet {s u : State} (r : s.RaisesOnly u) (h : s.flags.RaisedAreSet) :
    u.flags.RaisedAreSet := by
  intro f raised
  rcases r f with same | up
  · rw [same] at raised ⊢
    exact h f raised
  · rw [up]
    rfl

theorem Flags.RaisedAreSet.raise (h : fs.RaisedAreSet) (f : FlagId) : (fs.raise f).RaisedAreSet := by
  intro g raised
  by_cases same : g = f
  · rw [same, Flags.get_raise]
  · rw [Flags.get_raise_ne _ same] at raised ⊢
    exact h g raised

/-- A page start clears every mark (R172). -/
theorem Flags.snapshot_raisedAreSet (fs : Flags) : (fs.each Flag.snapshot).RaisedAreSet := by
  intro f raised
  rw [Flags.get_each] at raised
  cases raised

/-- An acknowledgement passes a marked flag by (R173). -/
theorem Flags.RaisedAreSet.acknowledge (h : fs.RaisedAreSet) : (fs.each Flag.acknowledge).RaisedAreSet := by
  intro f raised
  rw [Flags.get_each] at raised ⊢
  exact (Flag.acknowledge_kept (f := fs.get f) (.inr raised)).trans (h f raised)

theorem Flags.RaisedAreSet.raiseWhen (h : fs.RaisedAreSet) (b : Bool) (f : FlagId) :
    (fs.raiseWhen b f).RaisedAreSet := by
  cases b
  · exact h
  · exact h.raise f

theorem Flags.RaisedAreSet.shownAfter (h : fs.RaisedAreSet) (p : BitVec 7) : (fs.shownAfter p).RaisedAreSet := by
  unfold Flags.shownAfter
  split
  · exact fs.snapshot_raisedAreSet
  · exact h

end

/-- The first page shows every flag, and RESTART is raised before or after it (R171, R172). -/
theorem State.takeRelease_raisedAreSet (s : State) (p : Straps) (ej : Bool) :
    (s.takeRelease p ej).flags.RaisedAreSet := by
  rw [State.takeRelease_flags, State.releasePage, State.firstPage]
  split
  · exact Flags.snapshot_raisedAreSet _
  · exact (Flags.snapshot_raisedAreSet _).raise .restart

section
variable {s : State} (h : s.flags.RaisedAreSet)
include h

/-- A boundary raises SLIP and starts a page, in either order, or does one of them, or neither (R50, R172). -/
theorem State.takeBoundary_raisedAreSet (ej : Bool) : (s.takeBoundary ej).flags.RaisedAreSet := by
  classical
  rcases s.takeBoundary_flags ej (b := decide (∃ t, s.StartsRepeat t)) decide_eq_true_iff with flags | flags
  · rw [flags]
    exact (h.raiseWhen _ .slip).shownAfter _
  · rw [flags]
    exact (h.shownAfter _).raiseWhen _ .slip

theorem State.whenRunning_raisedAreSet {f : State → State} (hf : (f s).flags.RaisedAreSet) :
    (whenRunning f s).flags.RaisedAreSet := by
  unfold whenRunning
  split
  · exact hf
  · exact h

/-- Every command keeps the marks on set flags: assertion and release write all flags afresh, a boundary and an
acknowledgement are as above, and no other command does more than raise. -/
theorem State.exec_raisedAreSet {u : State} (c : Instr) (hu : exec c s = .next u) : u.flags.RaisedAreSet := by
  have edge (t : TribId) (b : Bool) : (s.lineEdge t b).flags.RaisedAreSet :=
    (s.lineEdge_raisesOnly t b).raisedAreSet h
  cases c with
  | resetAssertion =>
    cases hu
    obtain ⟨-, -, -, -, -, marks⟩ := lawsAtReset
    exact marks
  | resetRelease p ej =>
    cases hu
    split
    · exact h
    · exact s.takeRelease_raisedAreSet p ej
  | leaveDark t b => rw [exec_leaveDark_eq] at hu; cases hu; exact edge t b
  | darkEntry t =>
    cases hu
    split
    · exact (s.discard_raisesOnly t _ _ _).raisedAreSet h
    · exact h
  | candidate t b => rw [exec_candidate_eq] at hu; cases hu; exact edge t b
  | verifyCheck t b => rw [exec_verifyCheck_eq] at hu; cases hu; exact edge t b
  | syncOctetCheck t b => rw [exec_syncOctetCheck_eq] at hu; cases hu; exact edge t b
  | frameCompletion t b => rw [exec_frameCompletion_eq] at hu; cases hu; exact edge t b
  | officeBoundary ej => cases hu; exact State.whenRunning_raisedAreSet h (State.takeBoundary_raisedAreSet h ej)
  | measurementClose =>
    cases hu
    exact State.whenRunning_raisedAreSet h (s.takeClose_raisesOnly.raisedAreSet h)
  | acceptedEdge r n =>
    cases hu
    split
    · exact (s.takeAcceptedEdge_raisesOnly r n).raisedAreSet h
    · exact h
  | missingEdge r =>
    cases hu
    split
    · exact (s.takeMissingEdge_raisesOnly r).raisedAreSet h
    · exact h
  | gradeStart =>
    cases hu
    refine State.whenRunning_raisedAreSet h ?_
    rwa [s.takeGradeStart_flags]
  | pulseEnd line => cases hu; exact State.whenRunning_raisedAreSet h h
  | ejRisingEdge =>
    cases hu
    refine State.whenRunning_raisedAreSet h ?_
    rwa [s.takeEjRise_flags]
  | acknowledgement => cases hu; exact State.whenRunning_raisedAreSet h h.acknowledge
  | lineClockEdge t b => cases hu; exact edge t b
  | railLineCapture line ch n =>
    cases hu
    refine State.whenRunning_raisedAreSet h ?_
    rwa [s.takeCapture_flags]
  | officeBit k half => cases hu; exact State.whenRunning_raisedAreSet h h

end

/-- Settles O58: a tick writes no flag, and every command keeps the marks. -/
theorem raisedAreSetKept : Obligations.RaisedAreSetKept := by
  intro s u h hu
  unfold step at hu
  split at hu
  next => cases hu; rwa [s.idle_flags]
  next c rest _ => exact State.exec_raisedAreSet (s := { s with pending := rest }) h c hu

/-! The acknowledgement (R173) -/

theorem exec_acknowledgement {s : State} (hr : s.running = true) :
    exec .acknowledgement s = .next s.takeAcknowledgement := congrArg _ (whenRunning_running hr)

theorem State.takeAcknowledgement_flag (s : State) (f : FlagId) :
    s.takeAcknowledgement.flags.get f = (s.flags.get f).acknowledge := Flags.get_each ..

/-- Settles O56: flag by flag, whether it is shown and not raised since. -/
theorem acknowledge : Obligations.Acknowledge := by
  intro s hr
  refine ⟨_, exec_acknowledgement hr, fun f => ?_, rfl⟩
  rw [s.takeAcknowledgement_flag]
  exact ⟨rfl, rfl, fun ⟨hs, hx⟩ => Flag.acknowledge_shown hs hx, Flag.acknowledge_kept⟩

/-! The level of ALM (R174) -/

/-- The twelve flags. -/
def allFlags : List FlagId :=
  [.restart, .dark, .alignLoss, .slip, .squeeze, .refLoss, .holdEntry, .leadLost, .offset, .flap, .range, .relabel]

theorem mem_allFlags (f : FlagId) : f ∈ allFlags := by cases f <;> decide

theorem Flags.anySet_eq (fs : Flags) : fs.anySet = allFlags.any fun f => (fs.get f).v := by
  simp [Flags.anySet, allFlags, Flags.get, Bool.or_assoc]

theorem State.alm_low_iff (s : State) : s.alm = false ↔ ∃ f, (s.flags.get f).v = true := by
  simp [State.alm, Flags.anySet_eq, mem_allFlags]

/-- Settles O57: ALM by the flags; then the flags after the assertion, RESTART after the release, and the values that a
page start keeps. -/
theorem alarmLine : Obligations.AlarmLine := by
  refine ⟨State.alm_low_iff, fun s u h => ?assertion, fun s u p ej hr h => ?release, fun s => rfl⟩
  case assertion =>
    cases h
    rfl
  case release =>
    rw [exec_resetRelease hr] at h
    cases h
    refine (State.alm_low_iff _).mpr ⟨.restart, ?_⟩
    rcases s.takeRelease_restart p ej with e | e <;> exact congrArg Flag.v e

/-! The queue -/

/-- Settles O1: by the definition of a step. -/
theorem stepRunsFront : Obligations.StepRunsFront := fun _ _ _ => rfl

end Sys2Proof.Machine
end

section
/-! PROOFS. The queue and the script of inputs: no command touches them, and every step answers a next state. -/

namespace Sys2Proof.Machine

/-- The commands waiting and the inputs to come are as they were. -/
structure State.SameQueue (s u : State) : Prop where
  pending : u.pending = s.pending
  inputs : u.inputs = s.inputs

section
variable {s u : State}

theorem State.SameQueue.refl (s : State) : s.SameQueue s := ⟨rfl, rfl⟩

/-- A command that has its occasion under a condition only. -/
theorem State.SameQueue.ite {p : Prop} [Decidable p] (h : s.SameQueue u) : s.SameQueue (if p then u else s) := by
  split
  · exact h
  · exact .refl s

theorem State.SameQueue.whenRunning {f : State → State} (h : s.SameQueue (f s)) : s.SameQueue (whenRunning f s) := h.ite

/-- A receiver event writes tributaries, free count and flags alone. -/
theorem State.SameBesideData.sameQueue (h : s.SameBesideData u) : s.SameQueue u := by
  rw [show u = _ from h]
  exact ⟨rfl, rfl⟩

theorem State.SameBesideTiming.sameQueue (h : s.SameBesideTiming u) : s.SameQueue u := ⟨h.pending, h.inputs⟩

theorem State.SameBesidePage.sameQueue (h : s.SameBesidePage u) : s.SameQueue u := ⟨h.pending, h.inputs⟩

theorem State.Lasts.sameQueue (h : s.Lasts u) : s.SameQueue u := ⟨h.pending, h.inputs⟩

end

section
variable (s : State)

/-- The release's straps, first frame and LISTEN window touch neither, so its readout and page start meet them as
the release found them. -/
theorem State.takeRelease_sameQueue (p : Straps) (ej : Bool) : s.SameQueue (s.takeRelease p ej) := by
  obtain ⟨pending, inputs⟩ := (s.takeRelease_besidePage p ej).sameQueue
  exact ⟨pending, inputs⟩

theorem State.takeClose_sameQueue : s.SameQueue s.takeClose := by
  rw [s.takeClose_frame]
  exact ⟨rfl, rfl⟩

theorem State.takeGradeStart_sameQueue : s.SameQueue s.takeGradeStart := by
  unfold State.takeGradeStart State.pullGrade
  (repeat' split) <;> exact ⟨rfl, rfl⟩

theorem State.takeEjRise_sameQueue : s.SameQueue s.takeEjRise := by
  unfold State.takeEjRise
  dsimp only
  split <;> exact ⟨rfl, rfl⟩

theorem State.takeCapture_sameQueue (line : RailLine) (ch : LineChange) (k : Nat) :
    s.SameQueue (s.takeCapture line ch k) := by
  unfold State.takeCapture
  split <;> exact ⟨rfl, rfl⟩

/-- Every command answers a next state, with the queue and the script as they were. -/
theorem exec_next_sameQueue (c : Instr) : ∃ u, exec c s = .next u ∧ s.SameQueue u := by
  have edge (t : TribId) (b : Bool) : s.SameQueue (s.lineEdge t b) := (s.lineEdge_byTrib t b).beside.sameQueue
  cases c with
  | resetAssertion => exact ⟨_, rfl, rfl, rfl⟩
  | resetRelease p ej =>
    refine ⟨_, rfl, ?_⟩
    split
    · exact .refl s
    · exact s.takeRelease_sameQueue p ej
  | leaveDark t b => exact ⟨_, exec_leaveDark_eq s t b, edge t b⟩
  | darkEntry t => exact ⟨_, rfl, (s.discard_within t _ _ _).beside.sameQueue.ite⟩
  | candidate t b => exact ⟨_, exec_candidate_eq s t b, edge t b⟩
  | verifyCheck t b => exact ⟨_, exec_verifyCheck_eq s t b, edge t b⟩
  | syncOctetCheck t b => exact ⟨_, exec_syncOctetCheck_eq s t b, edge t b⟩
  | frameCompletion t b => exact ⟨_, exec_frameCompletion_eq s t b, edge t b⟩
  | officeBoundary ej => exact ⟨_, rfl, (s.takeBoundary_lasts ej).sameQueue.whenRunning⟩
  | measurementClose => exact ⟨_, rfl, s.takeClose_sameQueue.whenRunning⟩
  | acceptedEdge r n => exact ⟨_, rfl, (s.takeAcceptedEdge_beside r n).sameQueue.ite⟩
  | missingEdge r => exact ⟨_, rfl, (s.takeMissingEdge_beside r).sameQueue.ite⟩
  | gradeStart => exact ⟨_, rfl, s.takeGradeStart_sameQueue.whenRunning⟩
  | pulseEnd line => exact ⟨_, rfl, State.SameQueue.whenRunning ⟨rfl, rfl⟩⟩
  | ejRisingEdge => exact ⟨_, rfl, s.takeEjRise_sameQueue.whenRunning⟩
  | acknowledgement => exact ⟨_, rfl, State.SameQueue.whenRunning ⟨rfl, rfl⟩⟩
  | lineClockEdge t b => exact ⟨_, rfl, edge t b⟩
  | railLineCapture line ch k => exact ⟨_, rfl, (s.takeCapture_sameQueue line ch k).whenRunning⟩
  | officeBit k half => exact ⟨_, rfl, State.SameQueue.whenRunning ⟨rfl, rfl⟩⟩

end

/-- Settles O2: a step is a tick, which answers by its definition, or the command at the front of the queue. -/
theorem stepAlwaysNext : Obligations.StepAlwaysNext := by
  refine ⟨fun s => ?step, fun c s => ?command⟩
  case step =>
    unfold step
    split
    next => exact ⟨_, rfl⟩
    next c rest _ =>
      obtain ⟨u, answers, -⟩ := exec_next_sameQueue { s with pending := rest } c
      exact ⟨u, answers⟩
  case command =>
    obtain ⟨u, answers, pending, inputs⟩ := exec_next_sameQueue s c
    exact ⟨u, answers, pending, inputs⟩

end Sys2Proof.Machine
end
